-- ==== Sys2Proof/Word.lean ====
section
/-! DEFINITION. The two widths of the machine: bytes and 16-bit words (00_scope.md R5, R8). -/

namespace Sys2Proof

/-- An 8-bit value: a register, a memory byte, a port value (00_scope.md R5). -/
abbrev Byte := BitVec 8

/-- A 16-bit value: an address, a register pair, SP or PC (00_scope.md R5). -/
abbrev Word := BitVec 16

end Sys2Proof
end

