-- ==== Sys2Proof/Config.lean ====
section
/-! DEFINITION. The parameters of 00_scope.md R5: the platform's memory map and the two policies, as plain data
fixed for a run (10_state.md R39), and the values the spec leaves unconstrained, as constants without a body. -/

namespace Sys2Proof

/-- `AltOpcodePolicy` (30_encoding.md R91): whether the 12 starred opcodes execute or are refused. -/
inductive AltOpcodePolicy where
  | execute
  | refuse
  deriving DecidableEq, Repr

/-- `AndAuxCarry` (44_alu_8bit.md R213): what `ANA` and `ANI` write to the auxiliary carry. -/
inductive AndAuxCarry where
  | orBit3
  | zero
  deriving DecidableEq, Repr

/-- What stands behind an address (20_memory.md R66). -/
inductive MemClass where
  | ram
  | rom
  | device
  | absent
  deriving DecidableEq, Repr

/-- `size` addresses from `base` up, all of one class (20_memory.md R66). -/
structure Region where
  base : Nat
  size : Nat
  cls : MemClass
  deriving DecidableEq, Repr

/-- The parameters fixed for a run (00_scope.md R5, 10_state.md R39). An address in no region of `memMap` is RAM,
the spec's default; of two regions that hold an address the earlier in the list decides (log 5, DESIGN CHOICE). -/
structure Config where
  memMap : List Region
  altOpcodePolicy : AltOpcodePolicy
  andAuxCarry : AndAuxCarry
  deriving DecidableEq, Repr

/-- The defaults of 00_scope.md R5: all RAM, alternative opcodes execute, `ANA` takes the OR of bits 3. -/
def Config.default : Config :=
  { memMap := [], altOpcodePolicy := .execute, andAuxCarry := .orBit3 }

/-- What a memory byte holds that nothing has written and `InitMem` does not define, as a function of its address:
unconstrained (20_memory.md R66, 93_implementation_defined.md U4; log 2, DESIGN CHOICE: a free value). -/
opaque Config.initByte : Word → Byte

/-- The n-th free draw: a byte the platform answers with, or an absent address reads as, about which nothing is
known (92_eei_decisions.md D4, D23, 93_implementation_defined.md U5, U6; log 3, DESIGN CHOICE: a free value). -/
opaque Config.freeByte : Nat → Byte

end Sys2Proof
end

