-- ==== Sys2Proof/Syntax.lean ====
section
/-! DEFINITION. The instructions: one constructor for each of the 256 rows of spec/opcode_table.json
(30_encoding.md R88), with its operand bytes as arguments; then the field view of the opcode map (R82 to R86):
the constructor that a register, pair, condition or operation code selects. -/

namespace Sys2Proof

/-- The 8-bit registers a 3-bit code names; code 110 is M, not a register (10_state.md R22). -/
inductive Reg where
  | b | c | d | e | h | l | a
  deriving DecidableEq, Repr

/-- The register pairs B,C / D,E / H,L (10_state.md R21, R23). -/
inductive Pair where
  | bc | de | hl
  deriving DecidableEq, Repr

/-- The 16-bit operands of `LXI`, `INX`, `DCX`, `DAD`: the three pairs and SP (10_state.md R23). -/
inductive Pair16 where
  | bc | de | hl | sp
  deriving DecidableEq, Repr

/-- The eight conditions, in the order of their codes (41_jumps_calls.md R130). -/
inductive Cond where
  | nz | z | nc | c | po | pe | p | m
  deriving DecidableEq, Repr

/-- The eight accumulator operations, in the order of their codes (30_encoding.md R85). -/
inductive AluOp where
  | add | adc | sub | sbb | ana | xra | ora | cmp
  deriving DecidableEq, Repr

/-- The 256 instructions (spec/opcode_table.json, 30_encoding.md R88): those with operand bytes first, then the
one-byte ones, each group in opcode order (the order of constructors carries no meaning). -/
inductive Instr where
  /-- 0x01 `LXI B,d16`, R190 -/
  | lxiB (d16 : Word)
  /-- 0x06 `MVI B,d8`, R173 -/
  | mviB (d8 : Byte)
  /-- 0x0E `MVI C,d8`, R173 -/
  | mviC (d8 : Byte)
  /-- 0x11 `LXI D,d16`, R190 -/
  | lxiD (d16 : Word)
  /-- 0x16 `MVI D,d8`, R173 -/
  | mviD (d8 : Byte)
  /-- 0x1E `MVI E,d8`, R173 -/
  | mviE (d8 : Byte)
  /-- 0x21 `LXI H,d16`, R190 -/
  | lxiH (d16 : Word)
  /-- 0x22 `SHLD a16`, R192 -/
  | shld (a16 : Word)
  /-- 0x26 `MVI H,d8`, R173 -/
  | mviH (d8 : Byte)
  /-- 0x2A `LHLD a16`, R191 -/
  | lhld (a16 : Word)
  /-- 0x2E `MVI L,d8`, R173 -/
  | mviL (d8 : Byte)
  /-- 0x31 `LXI SP,d16`, R190 -/
  | lxiSp (d16 : Word)
  /-- 0x32 `STA a16`, R178 -/
  | sta (a16 : Word)
  /-- 0x36 `MVI M,d8`, R174 -/
  | mviM (d8 : Byte)
  /-- 0x3A `LDA a16`, R177 -/
  | lda (a16 : Word)
  /-- 0x3E `MVI A,d8`, R173 -/
  | mviA (d8 : Byte)
  /-- 0xC2 `JNZ a16`, R133 -/
  | jnz (a16 : Word)
  /-- 0xC3 `JMP a16`, R131 -/
  | jmp (a16 : Word)
  /-- 0xC4 `CNZ a16`, R143 -/
  | cnz (a16 : Word)
  /-- 0xC6 `ADI d8`, R230 -/
  | adi (d8 : Byte)
  /-- 0xCA `JZ a16`, R134 -/
  | jz (a16 : Word)
  /-- 0xCB `*JMP a16`, R132 -/
  | altJmpCB (a16 : Word)
  /-- 0xCC `CZ a16`, R144 -/
  | cz (a16 : Word)
  /-- 0xCD `CALL a16`, R141 -/
  | call (a16 : Word)
  /-- 0xCE `ACI d8`, R231 -/
  | aci (d8 : Byte)
  /-- 0xD2 `JNC a16`, R135 -/
  | jnc (a16 : Word)
  /-- 0xD3 `OUT d8`, R116 -/
  | outPort (d8 : Byte)
  /-- 0xD4 `CNC a16`, R145 -/
  | cnc (a16 : Word)
  /-- 0xD6 `SUI d8`, R232 -/
  | sui (d8 : Byte)
  /-- 0xDA `JC a16`, R136 -/
  | jc (a16 : Word)
  /-- 0xDB `IN d8`, R115 -/
  | inPort (d8 : Byte)
  /-- 0xDC `CC a16`, R146 -/
  | cc (a16 : Word)
  /-- 0xDD `*CALL a16`, R142 -/
  | altCallDD (a16 : Word)
  /-- 0xDE `SBI d8`, R233 -/
  | sbi (d8 : Byte)
  /-- 0xE2 `JPO a16`, R137 -/
  | jpo (a16 : Word)
  /-- 0xE4 `CPO a16`, R147 -/
  | cpo (a16 : Word)
  /-- 0xE6 `ANI d8`, R234 -/
  | ani (d8 : Byte)
  /-- 0xEA `JPE a16`, R138 -/
  | jpe (a16 : Word)
  /-- 0xEC `CPE a16`, R148 -/
  | cpe (a16 : Word)
  /-- 0xED `*CALL a16`, R142 -/
  | altCallED (a16 : Word)
  /-- 0xEE `XRI d8`, R235 -/
  | xri (d8 : Byte)
  /-- 0xF2 `JP a16`, R139 -/
  | jp (a16 : Word)
  /-- 0xF4 `CP a16`, R149 -/
  | cp (a16 : Word)
  /-- 0xF6 `ORI d8`, R236 -/
  | ori (d8 : Byte)
  /-- 0xFA `JM a16`, R140 -/
  | jm (a16 : Word)
  /-- 0xFC `CM a16`, R150 -/
  | cm (a16 : Word)
  /-- 0xFD `*CALL a16`, R142 -/
  | altCallFD (a16 : Word)
  /-- 0xFE `CPI d8`, R237 -/
  | cpi (d8 : Byte)
  /-- 0x00 `NOP`, R110 -/
  | nop
  /-- 0x02 `STAX B`, R176 -/
  | staxB
  /-- 0x03 `INX B`, R270 -/
  | inxB
  /-- 0x04 `INR B`, R238 -/
  | inrB
  /-- 0x05 `DCR B`, R240 -/
  | dcrB
  /-- 0x07 `RLC`, R242 -/
  | rlc
  /-- 0x08 `*NOP`, R111 -/
  | altNop08
  /-- 0x09 `DAD B`, R272 -/
  | dadB
  /-- 0x0A `LDAX B`, R175 -/
  | ldaxB
  /-- 0x0B `DCX B`, R271 -/
  | dcxB
  /-- 0x0C `INR C`, R238 -/
  | inrC
  /-- 0x0D `DCR C`, R240 -/
  | dcrC
  /-- 0x0F `RRC`, R243 -/
  | rrc
  /-- 0x10 `*NOP`, R111 -/
  | altNop10
  /-- 0x12 `STAX D`, R176 -/
  | staxD
  /-- 0x13 `INX D`, R270 -/
  | inxD
  /-- 0x14 `INR D`, R238 -/
  | inrD
  /-- 0x15 `DCR D`, R240 -/
  | dcrD
  /-- 0x17 `RAL`, R244 -/
  | ral
  /-- 0x18 `*NOP`, R111 -/
  | altNop18
  /-- 0x19 `DAD D`, R272 -/
  | dadD
  /-- 0x1A `LDAX D`, R175 -/
  | ldaxD
  /-- 0x1B `DCX D`, R271 -/
  | dcxD
  /-- 0x1C `INR E`, R238 -/
  | inrE
  /-- 0x1D `DCR E`, R240 -/
  | dcrE
  /-- 0x1F `RAR`, R245 -/
  | rar
  /-- 0x20 `*NOP`, R111 -/
  | altNop20
  /-- 0x23 `INX H`, R270 -/
  | inxH
  /-- 0x24 `INR H`, R238 -/
  | inrH
  /-- 0x25 `DCR H`, R240 -/
  | dcrH
  /-- 0x27 `DAA`, R246 -/
  | daa
  /-- 0x28 `*NOP`, R111 -/
  | altNop28
  /-- 0x29 `DAD H`, R272 -/
  | dadH
  /-- 0x2B `DCX H`, R271 -/
  | dcxH
  /-- 0x2C `INR L`, R238 -/
  | inrL
  /-- 0x2D `DCR L`, R240 -/
  | dcrL
  /-- 0x2F `CMA`, R247 -/
  | cma
  /-- 0x30 `*NOP`, R111 -/
  | altNop30
  /-- 0x33 `INX SP`, R270 -/
  | inxSp
  /-- 0x34 `INR M`, R239 -/
  | inrM
  /-- 0x35 `DCR M`, R241 -/
  | dcrM
  /-- 0x37 `STC`, R248 -/
  | stc
  /-- 0x38 `*NOP`, R111 -/
  | altNop38
  /-- 0x39 `DAD SP`, R272 -/
  | dadSp
  /-- 0x3B `DCX SP`, R271 -/
  | dcxSp
  /-- 0x3C `INR A`, R238 -/
  | inrA
  /-- 0x3D `DCR A`, R240 -/
  | dcrA
  /-- 0x3F `CMC`, R249 -/
  | cmc
  /-- 0x40 `MOV B,B`, R170 -/
  | movBB
  /-- 0x41 `MOV B,C`, R170 -/
  | movBC
  /-- 0x42 `MOV B,D`, R170 -/
  | movBD
  /-- 0x43 `MOV B,E`, R170 -/
  | movBE
  /-- 0x44 `MOV B,H`, R170 -/
  | movBH
  /-- 0x45 `MOV B,L`, R170 -/
  | movBL
  /-- 0x46 `MOV B,M`, R171 -/
  | movBM
  /-- 0x47 `MOV B,A`, R170 -/
  | movBA
  /-- 0x48 `MOV C,B`, R170 -/
  | movCB
  /-- 0x49 `MOV C,C`, R170 -/
  | movCC
  /-- 0x4A `MOV C,D`, R170 -/
  | movCD
  /-- 0x4B `MOV C,E`, R170 -/
  | movCE
  /-- 0x4C `MOV C,H`, R170 -/
  | movCH
  /-- 0x4D `MOV C,L`, R170 -/
  | movCL
  /-- 0x4E `MOV C,M`, R171 -/
  | movCM
  /-- 0x4F `MOV C,A`, R170 -/
  | movCA
  /-- 0x50 `MOV D,B`, R170 -/
  | movDB
  /-- 0x51 `MOV D,C`, R170 -/
  | movDC
  /-- 0x52 `MOV D,D`, R170 -/
  | movDD
  /-- 0x53 `MOV D,E`, R170 -/
  | movDE
  /-- 0x54 `MOV D,H`, R170 -/
  | movDH
  /-- 0x55 `MOV D,L`, R170 -/
  | movDL
  /-- 0x56 `MOV D,M`, R171 -/
  | movDM
  /-- 0x57 `MOV D,A`, R170 -/
  | movDA
  /-- 0x58 `MOV E,B`, R170 -/
  | movEB
  /-- 0x59 `MOV E,C`, R170 -/
  | movEC
  /-- 0x5A `MOV E,D`, R170 -/
  | movED
  /-- 0x5B `MOV E,E`, R170 -/
  | movEE
  /-- 0x5C `MOV E,H`, R170 -/
  | movEH
  /-- 0x5D `MOV E,L`, R170 -/
  | movEL
  /-- 0x5E `MOV E,M`, R171 -/
  | movEM
  /-- 0x5F `MOV E,A`, R170 -/
  | movEA
  /-- 0x60 `MOV H,B`, R170 -/
  | movHB
  /-- 0x61 `MOV H,C`, R170 -/
  | movHC
  /-- 0x62 `MOV H,D`, R170 -/
  | movHD
  /-- 0x63 `MOV H,E`, R170 -/
  | movHE
  /-- 0x64 `MOV H,H`, R170 -/
  | movHH
  /-- 0x65 `MOV H,L`, R170 -/
  | movHL
  /-- 0x66 `MOV H,M`, R171 -/
  | movHM
  /-- 0x67 `MOV H,A`, R170 -/
  | movHA
  /-- 0x68 `MOV L,B`, R170 -/
  | movLB
  /-- 0x69 `MOV L,C`, R170 -/
  | movLC
  /-- 0x6A `MOV L,D`, R170 -/
  | movLD
  /-- 0x6B `MOV L,E`, R170 -/
  | movLE
  /-- 0x6C `MOV L,H`, R170 -/
  | movLH
  /-- 0x6D `MOV L,L`, R170 -/
  | movLL
  /-- 0x6E `MOV L,M`, R171 -/
  | movLM
  /-- 0x6F `MOV L,A`, R170 -/
  | movLA
  /-- 0x70 `MOV M,B`, R172 -/
  | movMB
  /-- 0x71 `MOV M,C`, R172 -/
  | movMC
  /-- 0x72 `MOV M,D`, R172 -/
  | movMD
  /-- 0x73 `MOV M,E`, R172 -/
  | movME
  /-- 0x74 `MOV M,H`, R172 -/
  | movMH
  /-- 0x75 `MOV M,L`, R172 -/
  | movML
  /-- 0x76 `HLT`, R112 -/
  | hlt
  /-- 0x77 `MOV M,A`, R172 -/
  | movMA
  /-- 0x78 `MOV A,B`, R170 -/
  | movAB
  /-- 0x79 `MOV A,C`, R170 -/
  | movAC
  /-- 0x7A `MOV A,D`, R170 -/
  | movAD
  /-- 0x7B `MOV A,E`, R170 -/
  | movAE
  /-- 0x7C `MOV A,H`, R170 -/
  | movAH
  /-- 0x7D `MOV A,L`, R170 -/
  | movAL
  /-- 0x7E `MOV A,M`, R171 -/
  | movAM
  /-- 0x7F `MOV A,A`, R170 -/
  | movAA
  /-- 0x80 `ADD B`, R214 -/
  | addB
  /-- 0x81 `ADD C`, R214 -/
  | addC
  /-- 0x82 `ADD D`, R214 -/
  | addD
  /-- 0x83 `ADD E`, R214 -/
  | addE
  /-- 0x84 `ADD H`, R214 -/
  | addH
  /-- 0x85 `ADD L`, R214 -/
  | addL
  /-- 0x86 `ADD M`, R215 -/
  | addM
  /-- 0x87 `ADD A`, R214 -/
  | addA
  /-- 0x88 `ADC B`, R216 -/
  | adcB
  /-- 0x89 `ADC C`, R216 -/
  | adcC
  /-- 0x8A `ADC D`, R216 -/
  | adcD
  /-- 0x8B `ADC E`, R216 -/
  | adcE
  /-- 0x8C `ADC H`, R216 -/
  | adcH
  /-- 0x8D `ADC L`, R216 -/
  | adcL
  /-- 0x8E `ADC M`, R217 -/
  | adcM
  /-- 0x8F `ADC A`, R216 -/
  | adcA
  /-- 0x90 `SUB B`, R218 -/
  | subB
  /-- 0x91 `SUB C`, R218 -/
  | subC
  /-- 0x92 `SUB D`, R218 -/
  | subD
  /-- 0x93 `SUB E`, R218 -/
  | subE
  /-- 0x94 `SUB H`, R218 -/
  | subH
  /-- 0x95 `SUB L`, R218 -/
  | subL
  /-- 0x96 `SUB M`, R219 -/
  | subM
  /-- 0x97 `SUB A`, R218 -/
  | subA
  /-- 0x98 `SBB B`, R220 -/
  | sbbB
  /-- 0x99 `SBB C`, R220 -/
  | sbbC
  /-- 0x9A `SBB D`, R220 -/
  | sbbD
  /-- 0x9B `SBB E`, R220 -/
  | sbbE
  /-- 0x9C `SBB H`, R220 -/
  | sbbH
  /-- 0x9D `SBB L`, R220 -/
  | sbbL
  /-- 0x9E `SBB M`, R221 -/
  | sbbM
  /-- 0x9F `SBB A`, R220 -/
  | sbbA
  /-- 0xA0 `ANA B`, R222 -/
  | anaB
  /-- 0xA1 `ANA C`, R222 -/
  | anaC
  /-- 0xA2 `ANA D`, R222 -/
  | anaD
  /-- 0xA3 `ANA E`, R222 -/
  | anaE
  /-- 0xA4 `ANA H`, R222 -/
  | anaH
  /-- 0xA5 `ANA L`, R222 -/
  | anaL
  /-- 0xA6 `ANA M`, R223 -/
  | anaM
  /-- 0xA7 `ANA A`, R222 -/
  | anaA
  /-- 0xA8 `XRA B`, R224 -/
  | xraB
  /-- 0xA9 `XRA C`, R224 -/
  | xraC
  /-- 0xAA `XRA D`, R224 -/
  | xraD
  /-- 0xAB `XRA E`, R224 -/
  | xraE
  /-- 0xAC `XRA H`, R224 -/
  | xraH
  /-- 0xAD `XRA L`, R224 -/
  | xraL
  /-- 0xAE `XRA M`, R225 -/
  | xraM
  /-- 0xAF `XRA A`, R224 -/
  | xraA
  /-- 0xB0 `ORA B`, R226 -/
  | oraB
  /-- 0xB1 `ORA C`, R226 -/
  | oraC
  /-- 0xB2 `ORA D`, R226 -/
  | oraD
  /-- 0xB3 `ORA E`, R226 -/
  | oraE
  /-- 0xB4 `ORA H`, R226 -/
  | oraH
  /-- 0xB5 `ORA L`, R226 -/
  | oraL
  /-- 0xB6 `ORA M`, R227 -/
  | oraM
  /-- 0xB7 `ORA A`, R226 -/
  | oraA
  /-- 0xB8 `CMP B`, R228 -/
  | cmpB
  /-- 0xB9 `CMP C`, R228 -/
  | cmpC
  /-- 0xBA `CMP D`, R228 -/
  | cmpD
  /-- 0xBB `CMP E`, R228 -/
  | cmpE
  /-- 0xBC `CMP H`, R228 -/
  | cmpH
  /-- 0xBD `CMP L`, R228 -/
  | cmpL
  /-- 0xBE `CMP M`, R229 -/
  | cmpM
  /-- 0xBF `CMP A`, R228 -/
  | cmpA
  /-- 0xC0 `RNZ`, R153 -/
  | rnz
  /-- 0xC1 `POP B`, R195 -/
  | popB
  /-- 0xC5 `PUSH B`, R193 -/
  | pushB
  /-- 0xC7 `RST 0`, R162 -/
  | rst0
  /-- 0xC8 `RZ`, R154 -/
  | rz
  /-- 0xC9 `RET`, R151 -/
  | ret
  /-- 0xCF `RST 1`, R162 -/
  | rst1
  /-- 0xD0 `RNC`, R155 -/
  | rnc
  /-- 0xD1 `POP D`, R195 -/
  | popD
  /-- 0xD5 `PUSH D`, R193 -/
  | pushD
  /-- 0xD7 `RST 2`, R162 -/
  | rst2
  /-- 0xD8 `RC`, R156 -/
  | rc
  /-- 0xD9 `*RET`, R152 -/
  | altRetD9
  /-- 0xDF `RST 3`, R162 -/
  | rst3
  /-- 0xE0 `RPO`, R157 -/
  | rpo
  /-- 0xE1 `POP H`, R195 -/
  | popH
  /-- 0xE3 `XTHL`, R198 -/
  | xthl
  /-- 0xE5 `PUSH H`, R193 -/
  | pushH
  /-- 0xE7 `RST 4`, R162 -/
  | rst4
  /-- 0xE8 `RPE`, R158 -/
  | rpe
  /-- 0xE9 `PCHL`, R161 -/
  | pchl
  /-- 0xEB `XCHG`, R197 -/
  | xchg
  /-- 0xEF `RST 5`, R162 -/
  | rst5
  /-- 0xF0 `RP`, R159 -/
  | rp
  /-- 0xF1 `POP PSW`, R196 -/
  | popPsw
  /-- 0xF3 `DI`, R113 -/
  | di
  /-- 0xF5 `PUSH PSW`, R194 -/
  | pushPsw
  /-- 0xF7 `RST 6`, R162 -/
  | rst6
  /-- 0xF8 `RM`, R160 -/
  | rm
  /-- 0xF9 `SPHL`, R199 -/
  | sphl
  /-- 0xFB `EI`, R114 -/
  | ei
  /-- 0xFF `RST 7`, R162 -/
  | rst7
  deriving DecidableEq, Repr

/-! ### The field view (30_encoding.md R82 to R86) -/

/-- The code of a register (10_state.md R22). -/
def Reg.code : Reg → Nat
  | .b => 0 | .c => 1 | .d => 2 | .e => 3 | .h => 4 | .l => 5 | .a => 7

/-- The code of a pair (10_state.md R23). -/
def Pair.code : Pair → Nat
  | .bc => 0 | .de => 1 | .hl => 2

/-- The code of a 16-bit operand (10_state.md R23). -/
def Pair16.code : Pair16 → Nat
  | .bc => 0 | .de => 1 | .hl => 2 | .sp => 3

/-- The code of a condition (41_jumps_calls.md R130). -/
def Cond.code : Cond → Nat
  | .nz => 0 | .z => 1 | .nc => 2 | .c => 3 | .po => 4 | .pe => 5 | .p => 6 | .m => 7

/-- The code of an accumulator operation (30_encoding.md R85). -/
def AluOp.code : AluOp → Nat
  | .add => 0 | .adc => 1 | .sub => 2 | .sbb => 3 | .ana => 4 | .xra => 5 | .ora => 6 | .cmp => 7

/-- `MOV r1,r2`, the 49 constructors `movBB` to `movAA` without M (30_encoding.md R84). -/
def Instr.movReg : (dst src : Reg) → Instr
  | .b, .b => .movBB
  | .b, .c => .movBC
  | .b, .d => .movBD
  | .b, .e => .movBE
  | .b, .h => .movBH
  | .b, .l => .movBL
  | .b, .a => .movBA
  | .c, .b => .movCB
  | .c, .c => .movCC
  | .c, .d => .movCD
  | .c, .e => .movCE
  | .c, .h => .movCH
  | .c, .l => .movCL
  | .c, .a => .movCA
  | .d, .b => .movDB
  | .d, .c => .movDC
  | .d, .d => .movDD
  | .d, .e => .movDE
  | .d, .h => .movDH
  | .d, .l => .movDL
  | .d, .a => .movDA
  | .e, .b => .movEB
  | .e, .c => .movEC
  | .e, .d => .movED
  | .e, .e => .movEE
  | .e, .h => .movEH
  | .e, .l => .movEL
  | .e, .a => .movEA
  | .h, .b => .movHB
  | .h, .c => .movHC
  | .h, .d => .movHD
  | .h, .e => .movHE
  | .h, .h => .movHH
  | .h, .l => .movHL
  | .h, .a => .movHA
  | .l, .b => .movLB
  | .l, .c => .movLC
  | .l, .d => .movLD
  | .l, .e => .movLE
  | .l, .h => .movLH
  | .l, .l => .movLL
  | .l, .a => .movLA
  | .a, .b => .movAB
  | .a, .c => .movAC
  | .a, .d => .movAD
  | .a, .e => .movAE
  | .a, .h => .movAH
  | .a, .l => .movAL
  | .a, .a => .movAA

/-- `MOV r,M`, the seven constructors `movBM` to `movAM` (30_encoding.md R84). -/
def Instr.movFromM : Reg → Instr
  | .b => .movBM
  | .c => .movCM
  | .d => .movDM
  | .e => .movEM
  | .h => .movHM
  | .l => .movLM
  | .a => .movAM

/-- `MOV M,r`, the seven constructors `movMB` to `movMA` (30_encoding.md R84). -/
def Instr.movToM : Reg → Instr
  | .b => .movMB
  | .c => .movMC
  | .d => .movMD
  | .e => .movME
  | .h => .movMH
  | .l => .movML
  | .a => .movMA

/-- `MVI r,d8`, the seven constructors `mviB` to `mviA` (30_encoding.md R83). -/
def Instr.mviReg : Reg → Byte → Instr
  | .b, d8 => .mviB d8
  | .c, d8 => .mviC d8
  | .d, d8 => .mviD d8
  | .e, d8 => .mviE d8
  | .h, d8 => .mviH d8
  | .l, d8 => .mviL d8
  | .a, d8 => .mviA d8

/-- `INR r`, the seven constructors `inrB` to `inrA` (30_encoding.md R83). -/
def Instr.inrReg : Reg → Instr
  | .b => .inrB
  | .c => .inrC
  | .d => .inrD
  | .e => .inrE
  | .h => .inrH
  | .l => .inrL
  | .a => .inrA

/-- `DCR r`, the seven constructors `dcrB` to `dcrA` (30_encoding.md R83). -/
def Instr.dcrReg : Reg → Instr
  | .b => .dcrB
  | .c => .dcrC
  | .d => .dcrD
  | .e => .dcrE
  | .h => .dcrH
  | .l => .dcrL
  | .a => .dcrA

/-- The accumulator operations on a register, the 56 constructors `addB` to `cmpA` without M (30_encoding.md R85). -/
def Instr.aluReg : AluOp → Reg → Instr
  | .add, .b => .addB
  | .add, .c => .addC
  | .add, .d => .addD
  | .add, .e => .addE
  | .add, .h => .addH
  | .add, .l => .addL
  | .add, .a => .addA
  | .adc, .b => .adcB
  | .adc, .c => .adcC
  | .adc, .d => .adcD
  | .adc, .e => .adcE
  | .adc, .h => .adcH
  | .adc, .l => .adcL
  | .adc, .a => .adcA
  | .sub, .b => .subB
  | .sub, .c => .subC
  | .sub, .d => .subD
  | .sub, .e => .subE
  | .sub, .h => .subH
  | .sub, .l => .subL
  | .sub, .a => .subA
  | .sbb, .b => .sbbB
  | .sbb, .c => .sbbC
  | .sbb, .d => .sbbD
  | .sbb, .e => .sbbE
  | .sbb, .h => .sbbH
  | .sbb, .l => .sbbL
  | .sbb, .a => .sbbA
  | .ana, .b => .anaB
  | .ana, .c => .anaC
  | .ana, .d => .anaD
  | .ana, .e => .anaE
  | .ana, .h => .anaH
  | .ana, .l => .anaL
  | .ana, .a => .anaA
  | .xra, .b => .xraB
  | .xra, .c => .xraC
  | .xra, .d => .xraD
  | .xra, .e => .xraE
  | .xra, .h => .xraH
  | .xra, .l => .xraL
  | .xra, .a => .xraA
  | .ora, .b => .oraB
  | .ora, .c => .oraC
  | .ora, .d => .oraD
  | .ora, .e => .oraE
  | .ora, .h => .oraH
  | .ora, .l => .oraL
  | .ora, .a => .oraA
  | .cmp, .b => .cmpB
  | .cmp, .c => .cmpC
  | .cmp, .d => .cmpD
  | .cmp, .e => .cmpE
  | .cmp, .h => .cmpH
  | .cmp, .l => .cmpL
  | .cmp, .a => .cmpA

/-- The accumulator operations on M, `addM` to `cmpM` (30_encoding.md R85). -/
def Instr.aluM : AluOp → Instr
  | .add => .addM
  | .adc => .adcM
  | .sub => .subM
  | .sbb => .sbbM
  | .ana => .anaM
  | .xra => .xraM
  | .ora => .oraM
  | .cmp => .cmpM

/-- The accumulator operations on an immediate, `adi` to `cpi` (30_encoding.md R86). -/
def Instr.aluImm : AluOp → Byte → Instr
  | .add, d8 => .adi d8
  | .adc, d8 => .aci d8
  | .sub, d8 => .sui d8
  | .sbb, d8 => .sbi d8
  | .ana, d8 => .ani d8
  | .xra, d8 => .xri d8
  | .ora, d8 => .ori d8
  | .cmp, d8 => .cpi d8

/-- `LXI`, the four constructors `lxiB` to `lxiSp` (30_encoding.md R83). -/
def Instr.lxi : Pair16 → Word → Instr
  | .bc, d16 => .lxiB d16
  | .de, d16 => .lxiD d16
  | .hl, d16 => .lxiH d16
  | .sp, d16 => .lxiSp d16

/-- `INX`, the four constructors `inxB` to `inxSp` (30_encoding.md R83). -/
def Instr.inx : Pair16 → Instr
  | .bc => .inxB
  | .de => .inxD
  | .hl => .inxH
  | .sp => .inxSp

/-- `DCX`, the four constructors `dcxB` to `dcxSp` (30_encoding.md R83). -/
def Instr.dcx : Pair16 → Instr
  | .bc => .dcxB
  | .de => .dcxD
  | .hl => .dcxH
  | .sp => .dcxSp

/-- `DAD`, the four constructors `dadB` to `dadSp` (30_encoding.md R83). -/
def Instr.dad : Pair16 → Instr
  | .bc => .dadB
  | .de => .dadD
  | .hl => .dadH
  | .sp => .dadSp

/-- `PUSH rp`, `pushB`, `pushD`, `pushH` (30_encoding.md R86). -/
def Instr.pushPair : Pair → Instr
  | .bc => .pushB
  | .de => .pushD
  | .hl => .pushH

/-- `POP rp`, `popB`, `popD`, `popH` (30_encoding.md R86). -/
def Instr.popPair : Pair → Instr
  | .bc => .popB
  | .de => .popD
  | .hl => .popH

/-- The conditional jumps `jnz` to `jm` (30_encoding.md R86, 41_jumps_calls.md R130). -/
def Instr.jumpIf : Cond → Word → Instr
  | .nz, a16 => .jnz a16
  | .z, a16 => .jz a16
  | .nc, a16 => .jnc a16
  | .c, a16 => .jc a16
  | .po, a16 => .jpo a16
  | .pe, a16 => .jpe a16
  | .p, a16 => .jp a16
  | .m, a16 => .jm a16

/-- The conditional calls `cnz` to `cm` (30_encoding.md R86, 41_jumps_calls.md R130). -/
def Instr.callIf : Cond → Word → Instr
  | .nz, a16 => .cnz a16
  | .z, a16 => .cz a16
  | .nc, a16 => .cnc a16
  | .c, a16 => .cc a16
  | .po, a16 => .cpo a16
  | .pe, a16 => .cpe a16
  | .p, a16 => .cp a16
  | .m, a16 => .cm a16

/-- The conditional returns `rnz` to `rm` (30_encoding.md R86, 41_jumps_calls.md R130). -/
def Instr.retIf : Cond → Instr
  | .nz => .rnz
  | .z => .rz
  | .nc => .rnc
  | .c => .rc
  | .po => .rpo
  | .pe => .rpe
  | .p => .rp
  | .m => .rm

/-- `RST n`, `rst0` to `rst7` by the 3-bit number (30_encoding.md R86). -/
def Instr.rst (n : Fin 8) : Instr :=
  match n.val with
  | 0 => .rst0 | 1 => .rst1 | 2 => .rst2 | 3 => .rst3
  | 4 => .rst4 | 5 => .rst5 | 6 => .rst6 | _ => .rst7

end Sys2Proof
end

