-- ==== Sys2Proof/WellFormed.lean ====
section
/-! DEFINITION. What the types of an instruction and of a configuration do not already say. -/

namespace Sys2Proof

/-- Every instruction is well formed: a register, pair, condition or restart number is part of the constructor, an
operand has the width of its bytes, and "in 2-byte and 3-byte instructions every value of the immediate bytes is
legal" (30_encoding.md R90). No term of `Instr` is ill formed. -/
def Instr.WellFormed : Instr → Bool := fun _ => true

/-- A region of the memory map holds at least one address and lies in the 65,536 locations (20_memory.md R50). -/
def Region.WellFormed (r : Region) : Bool := decide (0 < r.size) && decide (r.base + r.size ≤ 65536)

/-- A configuration is well formed when each of its regions is. -/
def Config.WellFormed (cfg : Config) : Bool := cfg.memMap.all Region.WellFormed

end Sys2Proof
end

