-- ==== Sys2Proof/Decode.lean ====
section
/-! DEFINITION. Byte order, the decoder and after it the encoder (30_encoding.md R80 to R93, 20_memory.md R52). -/

namespace Sys2Proof

/-! ### Byte order (20_memory.md R51, R52) -/

/-- Bits 7:0 of a word, the byte at the lower address. -/
def loByte (w : Word) : Byte := w.extractLsb' 0 8

/-- Bits 15:8 of a word, the byte at the higher address. -/
def hiByte (w : Word) : Byte := w.extractLsb' 8 8

/-- The word (hi, lo), hi in bits 15:8 (00_scope.md R7). -/
def wordOf (hi lo : Byte) : Word := hi ++ lo

/-! ### Lengths (30_encoding.md R80) -/

/-- The 18 opcodes of length 2. -/
def opcodesOfLength2 : List Byte :=
  [ 0x06, 0x0E, 0x16, 0x1E, 0x26, 0x2E, 0x36, 0x3E, 0xC6, 0xCE, 0xD3, 0xD6,
    0xDB, 0xDE, 0xE6, 0xEE, 0xF6, 0xFE ]

/-- The 30 opcodes of length 3. -/
def opcodesOfLength3 : List Byte :=
  [ 0x01, 0x11, 0x21, 0x22, 0x2A, 0x31, 0x32, 0x3A, 0xC2, 0xC3, 0xC4, 0xCA,
    0xCB, 0xCC, 0xCD, 0xD2, 0xD4, 0xDA, 0xDC, 0xDD, 0xE2, 0xE4, 0xEA, 0xEC,
    0xED, 0xF2, 0xF4, 0xFA, 0xFC, 0xFD ]

/-- The length of an instruction, from its opcode byte alone (30_encoding.md R80, R92). -/
def opLength (op : Byte) : Nat :=
  if op ∈ opcodesOfLength2 then 2 else if op ∈ opcodesOfLength3 then 3 else 1

/-! ### The opcode map (30_encoding.md R88), as the source's 16 by 16 grid -/

/-- Row 0x of the opcode map (30_encoding.md R88); column 15 is the last pattern. -/
def gridRow0 (col : Nat) (d8 : Byte) (d16 : Word) : Instr :=
  match col with
  | 0 => .nop
  | 1 => .lxiB d16
  | 2 => .staxB
  | 3 => .inxB
  | 4 => .inrB
  | 5 => .dcrB
  | 6 => .mviB d8
  | 7 => .rlc
  | 8 => .altNop08
  | 9 => .dadB
  | 10 => .ldaxB
  | 11 => .dcxB
  | 12 => .inrC
  | 13 => .dcrC
  | 14 => .mviC d8
  | _ => .rrc

/-- Row 1x of the opcode map (30_encoding.md R88); column 15 is the last pattern. -/
def gridRow1 (col : Nat) (d8 : Byte) (d16 : Word) : Instr :=
  match col with
  | 0 => .altNop10
  | 1 => .lxiD d16
  | 2 => .staxD
  | 3 => .inxD
  | 4 => .inrD
  | 5 => .dcrD
  | 6 => .mviD d8
  | 7 => .ral
  | 8 => .altNop18
  | 9 => .dadD
  | 10 => .ldaxD
  | 11 => .dcxD
  | 12 => .inrE
  | 13 => .dcrE
  | 14 => .mviE d8
  | _ => .rar

/-- Row 2x of the opcode map (30_encoding.md R88); column 15 is the last pattern. -/
def gridRow2 (col : Nat) (d8 : Byte) (d16 : Word) : Instr :=
  match col with
  | 0 => .altNop20
  | 1 => .lxiH d16
  | 2 => .shld d16
  | 3 => .inxH
  | 4 => .inrH
  | 5 => .dcrH
  | 6 => .mviH d8
  | 7 => .daa
  | 8 => .altNop28
  | 9 => .dadH
  | 10 => .lhld d16
  | 11 => .dcxH
  | 12 => .inrL
  | 13 => .dcrL
  | 14 => .mviL d8
  | _ => .cma

/-- Row 3x of the opcode map (30_encoding.md R88); column 15 is the last pattern. -/
def gridRow3 (col : Nat) (d8 : Byte) (d16 : Word) : Instr :=
  match col with
  | 0 => .altNop30
  | 1 => .lxiSp d16
  | 2 => .sta d16
  | 3 => .inxSp
  | 4 => .inrM
  | 5 => .dcrM
  | 6 => .mviM d8
  | 7 => .stc
  | 8 => .altNop38
  | 9 => .dadSp
  | 10 => .lda d16
  | 11 => .dcxSp
  | 12 => .inrA
  | 13 => .dcrA
  | 14 => .mviA d8
  | _ => .cmc

/-- Row 4x of the opcode map (30_encoding.md R88); column 15 is the last pattern. -/
def gridRow4 (col : Nat) (_ : Byte) (_ : Word) : Instr :=
  match col with
  | 0 => .movBB
  | 1 => .movBC
  | 2 => .movBD
  | 3 => .movBE
  | 4 => .movBH
  | 5 => .movBL
  | 6 => .movBM
  | 7 => .movBA
  | 8 => .movCB
  | 9 => .movCC
  | 10 => .movCD
  | 11 => .movCE
  | 12 => .movCH
  | 13 => .movCL
  | 14 => .movCM
  | _ => .movCA

/-- Row 5x of the opcode map (30_encoding.md R88); column 15 is the last pattern. -/
def gridRow5 (col : Nat) (_ : Byte) (_ : Word) : Instr :=
  match col with
  | 0 => .movDB
  | 1 => .movDC
  | 2 => .movDD
  | 3 => .movDE
  | 4 => .movDH
  | 5 => .movDL
  | 6 => .movDM
  | 7 => .movDA
  | 8 => .movEB
  | 9 => .movEC
  | 10 => .movED
  | 11 => .movEE
  | 12 => .movEH
  | 13 => .movEL
  | 14 => .movEM
  | _ => .movEA

/-- Row 6x of the opcode map (30_encoding.md R88); column 15 is the last pattern. -/
def gridRow6 (col : Nat) (_ : Byte) (_ : Word) : Instr :=
  match col with
  | 0 => .movHB
  | 1 => .movHC
  | 2 => .movHD
  | 3 => .movHE
  | 4 => .movHH
  | 5 => .movHL
  | 6 => .movHM
  | 7 => .movHA
  | 8 => .movLB
  | 9 => .movLC
  | 10 => .movLD
  | 11 => .movLE
  | 12 => .movLH
  | 13 => .movLL
  | 14 => .movLM
  | _ => .movLA

/-- Row 7x of the opcode map (30_encoding.md R88); column 15 is the last pattern. -/
def gridRow7 (col : Nat) (_ : Byte) (_ : Word) : Instr :=
  match col with
  | 0 => .movMB
  | 1 => .movMC
  | 2 => .movMD
  | 3 => .movME
  | 4 => .movMH
  | 5 => .movML
  | 6 => .hlt
  | 7 => .movMA
  | 8 => .movAB
  | 9 => .movAC
  | 10 => .movAD
  | 11 => .movAE
  | 12 => .movAH
  | 13 => .movAL
  | 14 => .movAM
  | _ => .movAA

/-- Row 8x of the opcode map (30_encoding.md R88); column 15 is the last pattern. -/
def gridRow8 (col : Nat) (_ : Byte) (_ : Word) : Instr :=
  match col with
  | 0 => .addB
  | 1 => .addC
  | 2 => .addD
  | 3 => .addE
  | 4 => .addH
  | 5 => .addL
  | 6 => .addM
  | 7 => .addA
  | 8 => .adcB
  | 9 => .adcC
  | 10 => .adcD
  | 11 => .adcE
  | 12 => .adcH
  | 13 => .adcL
  | 14 => .adcM
  | _ => .adcA

/-- Row 9x of the opcode map (30_encoding.md R88); column 15 is the last pattern. -/
def gridRow9 (col : Nat) (_ : Byte) (_ : Word) : Instr :=
  match col with
  | 0 => .subB
  | 1 => .subC
  | 2 => .subD
  | 3 => .subE
  | 4 => .subH
  | 5 => .subL
  | 6 => .subM
  | 7 => .subA
  | 8 => .sbbB
  | 9 => .sbbC
  | 10 => .sbbD
  | 11 => .sbbE
  | 12 => .sbbH
  | 13 => .sbbL
  | 14 => .sbbM
  | _ => .sbbA

/-- Row Ax of the opcode map (30_encoding.md R88); column 15 is the last pattern. -/
def gridRowA (col : Nat) (_ : Byte) (_ : Word) : Instr :=
  match col with
  | 0 => .anaB
  | 1 => .anaC
  | 2 => .anaD
  | 3 => .anaE
  | 4 => .anaH
  | 5 => .anaL
  | 6 => .anaM
  | 7 => .anaA
  | 8 => .xraB
  | 9 => .xraC
  | 10 => .xraD
  | 11 => .xraE
  | 12 => .xraH
  | 13 => .xraL
  | 14 => .xraM
  | _ => .xraA

/-- Row Bx of the opcode map (30_encoding.md R88); column 15 is the last pattern. -/
def gridRowB (col : Nat) (_ : Byte) (_ : Word) : Instr :=
  match col with
  | 0 => .oraB
  | 1 => .oraC
  | 2 => .oraD
  | 3 => .oraE
  | 4 => .oraH
  | 5 => .oraL
  | 6 => .oraM
  | 7 => .oraA
  | 8 => .cmpB
  | 9 => .cmpC
  | 10 => .cmpD
  | 11 => .cmpE
  | 12 => .cmpH
  | 13 => .cmpL
  | 14 => .cmpM
  | _ => .cmpA

/-- Row Cx of the opcode map (30_encoding.md R88); column 15 is the last pattern. -/
def gridRowC (col : Nat) (d8 : Byte) (d16 : Word) : Instr :=
  match col with
  | 0 => .rnz
  | 1 => .popB
  | 2 => .jnz d16
  | 3 => .jmp d16
  | 4 => .cnz d16
  | 5 => .pushB
  | 6 => .adi d8
  | 7 => .rst0
  | 8 => .rz
  | 9 => .ret
  | 10 => .jz d16
  | 11 => .altJmpCB d16
  | 12 => .cz d16
  | 13 => .call d16
  | 14 => .aci d8
  | _ => .rst1

/-- Row Dx of the opcode map (30_encoding.md R88); column 15 is the last pattern. -/
def gridRowD (col : Nat) (d8 : Byte) (d16 : Word) : Instr :=
  match col with
  | 0 => .rnc
  | 1 => .popD
  | 2 => .jnc d16
  | 3 => .outPort d8
  | 4 => .cnc d16
  | 5 => .pushD
  | 6 => .sui d8
  | 7 => .rst2
  | 8 => .rc
  | 9 => .altRetD9
  | 10 => .jc d16
  | 11 => .inPort d8
  | 12 => .cc d16
  | 13 => .altCallDD d16
  | 14 => .sbi d8
  | _ => .rst3

/-- Row Ex of the opcode map (30_encoding.md R88); column 15 is the last pattern. -/
def gridRowE (col : Nat) (d8 : Byte) (d16 : Word) : Instr :=
  match col with
  | 0 => .rpo
  | 1 => .popH
  | 2 => .jpo d16
  | 3 => .xthl
  | 4 => .cpo d16
  | 5 => .pushH
  | 6 => .ani d8
  | 7 => .rst4
  | 8 => .rpe
  | 9 => .pchl
  | 10 => .jpe d16
  | 11 => .xchg
  | 12 => .cpe d16
  | 13 => .altCallED d16
  | 14 => .xri d8
  | _ => .rst5

/-- Row Fx of the opcode map (30_encoding.md R88); column 15 is the last pattern. -/
def gridRowF (col : Nat) (d8 : Byte) (d16 : Word) : Instr :=
  match col with
  | 0 => .rp
  | 1 => .popPsw
  | 2 => .jp d16
  | 3 => .di
  | 4 => .cp d16
  | 5 => .pushPsw
  | 6 => .ori d8
  | 7 => .rst6
  | 8 => .rm
  | 9 => .sphl
  | 10 => .jm d16
  | 11 => .ei
  | 12 => .cm d16
  | 13 => .altCallFD d16
  | 14 => .cpi d8
  | _ => .rst7

/-- The instruction of an opcode byte and the two bytes after it; bytes past its length are not looked at. Total:
every byte is an opcode (30_encoding.md R89, R90). -/
def decodeOp (op b2 b3 : Byte) : Instr :=
  let col := (op.extractLsb' 0 4).toNat
  match (op.extractLsb' 4 4).toNat with
  | 0 => gridRow0 col b2 (wordOf b3 b2)
  | 1 => gridRow1 col b2 (wordOf b3 b2)
  | 2 => gridRow2 col b2 (wordOf b3 b2)
  | 3 => gridRow3 col b2 (wordOf b3 b2)
  | 4 => gridRow4 col b2 (wordOf b3 b2)
  | 5 => gridRow5 col b2 (wordOf b3 b2)
  | 6 => gridRow6 col b2 (wordOf b3 b2)
  | 7 => gridRow7 col b2 (wordOf b3 b2)
  | 8 => gridRow8 col b2 (wordOf b3 b2)
  | 9 => gridRow9 col b2 (wordOf b3 b2)
  | 10 => gridRowA col b2 (wordOf b3 b2)
  | 11 => gridRowB col b2 (wordOf b3 b2)
  | 12 => gridRowC col b2 (wordOf b3 b2)
  | 13 => gridRowD col b2 (wordOf b3 b2)
  | 14 => gridRowE col b2 (wordOf b3 b2)
  | _ => gridRowF col b2 (wordOf b3 b2)

/-- Why a list of bytes is not the start of an instruction; memory never gives such a list (30_encoding.md R89). -/
inductive DecodeError where
  /-- No byte at all. -/
  | noOpcode
  /-- The opcode is there, but not all the operand bytes its length asks for. -/
  | missingOperand (op : Byte)
  deriving DecidableEq, Repr

/-- The first instruction of a list of bytes and the bytes after it (30_encoding.md R89). -/
def decode : List Byte → Except DecodeError (Instr × List Byte)
  | [] => .error .noOpcode
  | op :: rest =>
    match opLength op, rest with
    | 1, rest => .ok (decodeOp op 0 0, rest)
    | 2, b2 :: rest => .ok (decodeOp op b2 0, rest)
    | 3, b2 :: b3 :: rest => .ok (decodeOp op b2 b3, rest)
    | _, _ => .error (.missingOperand op)

/-! ### The encoder (30_encoding.md R81, R88) -/

/-- The bytes of an instruction, the opcode first, the low operand byte before the high (30_encoding.md R81). -/
def encode : Instr → List Byte
  | .nop => [0x00]
  | .lxiB d16 => [0x01, loByte d16, hiByte d16]
  | .staxB => [0x02]
  | .inxB => [0x03]
  | .inrB => [0x04]
  | .dcrB => [0x05]
  | .mviB d8 => [0x06, d8]
  | .rlc => [0x07]
  | .altNop08 => [0x08]
  | .dadB => [0x09]
  | .ldaxB => [0x0A]
  | .dcxB => [0x0B]
  | .inrC => [0x0C]
  | .dcrC => [0x0D]
  | .mviC d8 => [0x0E, d8]
  | .rrc => [0x0F]
  | .altNop10 => [0x10]
  | .lxiD d16 => [0x11, loByte d16, hiByte d16]
  | .staxD => [0x12]
  | .inxD => [0x13]
  | .inrD => [0x14]
  | .dcrD => [0x15]
  | .mviD d8 => [0x16, d8]
  | .ral => [0x17]
  | .altNop18 => [0x18]
  | .dadD => [0x19]
  | .ldaxD => [0x1A]
  | .dcxD => [0x1B]
  | .inrE => [0x1C]
  | .dcrE => [0x1D]
  | .mviE d8 => [0x1E, d8]
  | .rar => [0x1F]
  | .altNop20 => [0x20]
  | .lxiH d16 => [0x21, loByte d16, hiByte d16]
  | .shld a16 => [0x22, loByte a16, hiByte a16]
  | .inxH => [0x23]
  | .inrH => [0x24]
  | .dcrH => [0x25]
  | .mviH d8 => [0x26, d8]
  | .daa => [0x27]
  | .altNop28 => [0x28]
  | .dadH => [0x29]
  | .lhld a16 => [0x2A, loByte a16, hiByte a16]
  | .dcxH => [0x2B]
  | .inrL => [0x2C]
  | .dcrL => [0x2D]
  | .mviL d8 => [0x2E, d8]
  | .cma => [0x2F]
  | .altNop30 => [0x30]
  | .lxiSp d16 => [0x31, loByte d16, hiByte d16]
  | .sta a16 => [0x32, loByte a16, hiByte a16]
  | .inxSp => [0x33]
  | .inrM => [0x34]
  | .dcrM => [0x35]
  | .mviM d8 => [0x36, d8]
  | .stc => [0x37]
  | .altNop38 => [0x38]
  | .dadSp => [0x39]
  | .lda a16 => [0x3A, loByte a16, hiByte a16]
  | .dcxSp => [0x3B]
  | .inrA => [0x3C]
  | .dcrA => [0x3D]
  | .mviA d8 => [0x3E, d8]
  | .cmc => [0x3F]
  | .movBB => [0x40]
  | .movBC => [0x41]
  | .movBD => [0x42]
  | .movBE => [0x43]
  | .movBH => [0x44]
  | .movBL => [0x45]
  | .movBM => [0x46]
  | .movBA => [0x47]
  | .movCB => [0x48]
  | .movCC => [0x49]
  | .movCD => [0x4A]
  | .movCE => [0x4B]
  | .movCH => [0x4C]
  | .movCL => [0x4D]
  | .movCM => [0x4E]
  | .movCA => [0x4F]
  | .movDB => [0x50]
  | .movDC => [0x51]
  | .movDD => [0x52]
  | .movDE => [0x53]
  | .movDH => [0x54]
  | .movDL => [0x55]
  | .movDM => [0x56]
  | .movDA => [0x57]
  | .movEB => [0x58]
  | .movEC => [0x59]
  | .movED => [0x5A]
  | .movEE => [0x5B]
  | .movEH => [0x5C]
  | .movEL => [0x5D]
  | .movEM => [0x5E]
  | .movEA => [0x5F]
  | .movHB => [0x60]
  | .movHC => [0x61]
  | .movHD => [0x62]
  | .movHE => [0x63]
  | .movHH => [0x64]
  | .movHL => [0x65]
  | .movHM => [0x66]
  | .movHA => [0x67]
  | .movLB => [0x68]
  | .movLC => [0x69]
  | .movLD => [0x6A]
  | .movLE => [0x6B]
  | .movLH => [0x6C]
  | .movLL => [0x6D]
  | .movLM => [0x6E]
  | .movLA => [0x6F]
  | .movMB => [0x70]
  | .movMC => [0x71]
  | .movMD => [0x72]
  | .movME => [0x73]
  | .movMH => [0x74]
  | .movML => [0x75]
  | .hlt => [0x76]
  | .movMA => [0x77]
  | .movAB => [0x78]
  | .movAC => [0x79]
  | .movAD => [0x7A]
  | .movAE => [0x7B]
  | .movAH => [0x7C]
  | .movAL => [0x7D]
  | .movAM => [0x7E]
  | .movAA => [0x7F]
  | .addB => [0x80]
  | .addC => [0x81]
  | .addD => [0x82]
  | .addE => [0x83]
  | .addH => [0x84]
  | .addL => [0x85]
  | .addM => [0x86]
  | .addA => [0x87]
  | .adcB => [0x88]
  | .adcC => [0x89]
  | .adcD => [0x8A]
  | .adcE => [0x8B]
  | .adcH => [0x8C]
  | .adcL => [0x8D]
  | .adcM => [0x8E]
  | .adcA => [0x8F]
  | .subB => [0x90]
  | .subC => [0x91]
  | .subD => [0x92]
  | .subE => [0x93]
  | .subH => [0x94]
  | .subL => [0x95]
  | .subM => [0x96]
  | .subA => [0x97]
  | .sbbB => [0x98]
  | .sbbC => [0x99]
  | .sbbD => [0x9A]
  | .sbbE => [0x9B]
  | .sbbH => [0x9C]
  | .sbbL => [0x9D]
  | .sbbM => [0x9E]
  | .sbbA => [0x9F]
  | .anaB => [0xA0]
  | .anaC => [0xA1]
  | .anaD => [0xA2]
  | .anaE => [0xA3]
  | .anaH => [0xA4]
  | .anaL => [0xA5]
  | .anaM => [0xA6]
  | .anaA => [0xA7]
  | .xraB => [0xA8]
  | .xraC => [0xA9]
  | .xraD => [0xAA]
  | .xraE => [0xAB]
  | .xraH => [0xAC]
  | .xraL => [0xAD]
  | .xraM => [0xAE]
  | .xraA => [0xAF]
  | .oraB => [0xB0]
  | .oraC => [0xB1]
  | .oraD => [0xB2]
  | .oraE => [0xB3]
  | .oraH => [0xB4]
  | .oraL => [0xB5]
  | .oraM => [0xB6]
  | .oraA => [0xB7]
  | .cmpB => [0xB8]
  | .cmpC => [0xB9]
  | .cmpD => [0xBA]
  | .cmpE => [0xBB]
  | .cmpH => [0xBC]
  | .cmpL => [0xBD]
  | .cmpM => [0xBE]
  | .cmpA => [0xBF]
  | .rnz => [0xC0]
  | .popB => [0xC1]
  | .jnz a16 => [0xC2, loByte a16, hiByte a16]
  | .jmp a16 => [0xC3, loByte a16, hiByte a16]
  | .cnz a16 => [0xC4, loByte a16, hiByte a16]
  | .pushB => [0xC5]
  | .adi d8 => [0xC6, d8]
  | .rst0 => [0xC7]
  | .rz => [0xC8]
  | .ret => [0xC9]
  | .jz a16 => [0xCA, loByte a16, hiByte a16]
  | .altJmpCB a16 => [0xCB, loByte a16, hiByte a16]
  | .cz a16 => [0xCC, loByte a16, hiByte a16]
  | .call a16 => [0xCD, loByte a16, hiByte a16]
  | .aci d8 => [0xCE, d8]
  | .rst1 => [0xCF]
  | .rnc => [0xD0]
  | .popD => [0xD1]
  | .jnc a16 => [0xD2, loByte a16, hiByte a16]
  | .outPort d8 => [0xD3, d8]
  | .cnc a16 => [0xD4, loByte a16, hiByte a16]
  | .pushD => [0xD5]
  | .sui d8 => [0xD6, d8]
  | .rst2 => [0xD7]
  | .rc => [0xD8]
  | .altRetD9 => [0xD9]
  | .jc a16 => [0xDA, loByte a16, hiByte a16]
  | .inPort d8 => [0xDB, d8]
  | .cc a16 => [0xDC, loByte a16, hiByte a16]
  | .altCallDD a16 => [0xDD, loByte a16, hiByte a16]
  | .sbi d8 => [0xDE, d8]
  | .rst3 => [0xDF]
  | .rpo => [0xE0]
  | .popH => [0xE1]
  | .jpo a16 => [0xE2, loByte a16, hiByte a16]
  | .xthl => [0xE3]
  | .cpo a16 => [0xE4, loByte a16, hiByte a16]
  | .pushH => [0xE5]
  | .ani d8 => [0xE6, d8]
  | .rst4 => [0xE7]
  | .rpe => [0xE8]
  | .pchl => [0xE9]
  | .jpe a16 => [0xEA, loByte a16, hiByte a16]
  | .xchg => [0xEB]
  | .cpe a16 => [0xEC, loByte a16, hiByte a16]
  | .altCallED a16 => [0xED, loByte a16, hiByte a16]
  | .xri d8 => [0xEE, d8]
  | .rst5 => [0xEF]
  | .rp => [0xF0]
  | .popPsw => [0xF1]
  | .jp a16 => [0xF2, loByte a16, hiByte a16]
  | .di => [0xF3]
  | .cp a16 => [0xF4, loByte a16, hiByte a16]
  | .pushPsw => [0xF5]
  | .ori d8 => [0xF6, d8]
  | .rst6 => [0xF7]
  | .rm => [0xF8]
  | .sphl => [0xF9]
  | .jm a16 => [0xFA, loByte a16, hiByte a16]
  | .ei => [0xFB]
  | .cm a16 => [0xFC, loByte a16, hiByte a16]
  | .altCallFD a16 => [0xFD, loByte a16, hiByte a16]
  | .cpi d8 => [0xFE, d8]
  | .rst7 => [0xFF]

/-- The length of an instruction in bytes (30_encoding.md R80). -/
def Instr.length (i : Instr) : Nat := (encode i).length

/-- The opcode byte of an instruction (30_encoding.md R88). -/
def Instr.opcode (i : Instr) : Byte := (encode i).headD 0

/-! ### A row of spec/opcode_table.json -/

/-- The three bytes of an instruction whose bits are `w`, bit 0 the least significant bit of the first byte, every bit
from `nbits` up zero: operand bytes that a row does not give are zeros (log 23, DESIGN CHOICE). -/
def tableBytes (nbits w : Nat) : List Byte :=
  let v := w % 2 ^ nbits
  [BitVec.ofNat 8 v, BitVec.ofNat 8 (v / 256), BitVec.ofNat 8 (v / 65536)]

/-- The instruction the decoder reads from the bits `w` of a row of spec/opcode_table.json. -/
def decodeTableWord (nbits w : Nat) : Option Instr :=
  match decode (tableBytes nbits w) with
  | .ok (i, _) => some i
  | .error _ => none

end Sys2Proof
end

