-- ==== Sys2Proof/Machine/State.lean ====
section
/-! DEFINITION. The complete state (10_state.md R38) with the parameters and the platform's side of it as plain data,
the reasons a step can stop, and the state after reset (10_state.md R41, 70_reset_and_hazards.md R320). -/

namespace Sys2Proof.Machine

/-- The seven 8-bit general registers (10_state.md R20). -/
structure Regs where
  a : Byte
  b : Byte
  c : Byte
  d : Byte
  e : Byte
  h : Byte
  l : Byte
  deriving DecidableEq, Repr

/-- The five flags; bits 5, 3 and 1 of F are not storage (10_state.md R27). -/
structure Flags where
  s : Bool
  z : Bool
  a : Bool
  p : Bool
  c : Bool
  deriving DecidableEq, Repr

/-- Memory: the bytes that were loaded or written, as (address, byte) cells with strictly rising addresses. An
address without a cell is one at which nothing is defined; `Memory.read` in Machine/Ops.lean says what it reads as. -/
abbrev Memory := List Host.Cell

/-- The three bytes an interrupting device holds ready for the acknowledge: the opcode and the two bytes after it,
used as far as the opcode's length asks (60_exceptions.md R285; log 8). -/
structure Supply where
  op : Byte
  b2 : Byte
  b3 : Byte
  deriving DecidableEq, Repr

/-- What the platform presents at one instruction boundary (60_exceptions.md R281, R283, 00_scope.md R12). -/
structure Boundary where
  reset : Bool
  request : Option Supply
  deriving DecidableEq, Repr

/-- Nothing presented: no reset, no request. -/
def Boundary.quiet : Boundary := { reset := false, request := none }

/-- An event at a door of the platform: a port access, or an access to a device address (20_memory.md R65, R66,
92_eei_decisions.md D4, 93_implementation_defined.md U5). -/
inductive Event where
  | portRead (port value : Byte)
  | portWrite (port value : Byte)
  | deviceRead (addr : Word) (value : Byte)
  | deviceWrite (addr : Word) (value : Byte)
  deriving DecidableEq, Repr

/-- The platform's side (10_state.md R38), in the model's own form (log 3, 4, 14): what it will present at the next
boundaries and answer to the next reads, how many free draws were taken, and the events so far, oldest first. An
empty `boundary` presents nothing ever (`IntSource = never`); an empty `answers` makes every answer a free draw. -/
structure Platform where
  boundary : List Boundary
  answers : List Byte
  draws : Nat
  trace : List Event
  deriving DecidableEq, Repr

/-- The state of the machine (10_state.md R38). -/
structure State where
  regs : Regs
  flags : Flags
  sp : Word
  pc : Word
  inte : Bool
  halted : Bool
  intInhibit : Bool
  mem : Memory
  cfg : Config
  plat : Platform
  deriving DecidableEq, Repr

/-- The faults of the machine: none. "There are no synchronous exceptions": every instruction completes, at every
state and with every operand (60_exceptions.md R280), and no address faults (20_memory.md R66; log 19). -/
inductive Fault where
  deriving DecidableEq, Repr

/-- Why a step is refused. -/
inductive Refusal where
  /-- Raised by an arm of `exec` for an instruction without a meaning; no arm of this model raises it. Safe: nothing
  is claimed of such a step. -/
  | notModelled (mnemonic : String)
  /-- Raised by the meanings of the 12 starred opcodes when `AltOpcodePolicy` is `refuse` (30_encoding.md R91).
  Safe: the spec says that it errs toward unprovable. -/
  | altOpcode (op : Byte)
  /-- Raised by the acceptance of an interrupt when the device supplies an opcode other than `RST n` and `CALL`
  (60_exceptions.md R285, 93_implementation_defined.md U8). Safe: the spec says that it errs toward unprovable. -/
  | suppliedNotAdmitted (op : Byte)
  deriving DecidableEq, Repr

/-- What an instruction or a step answers. -/
abbrev Result := Host.Outcome State Fault Refusal

/-- The state after reset: `pc`, `inte`, `halted`, `intInhibit` as 10_state.md R41 says; memory with nothing listed;
the parameters at the defaults of 00_scope.md R5; a platform that presents nothing. The registers, the flags and `sp`,
for which the spec gives no value, are zero (log 1, DESIGN CHOICE, unsafe), and the model's own fields are empty
(log 22, DESIGN CHOICE). -/
def State.reset : State :=
  { regs := { a := 0, b := 0, c := 0, d := 0, e := 0, h := 0, l := 0 }
    flags := { s := false, z := false, a := false, p := false, c := false }
    sp := 0
    pc := 0
    inte := false
    halted := false
    intInhibit := false
    mem := []
    cfg := Config.default
    plat := { boundary := [], answers := [], draws := 0, trace := [] } }

end Sys2Proof.Machine
end

