-- ==== Sys2Proof/Machine/Ops.lean ====
section
/-! DEFINITION. The named operations over memory, registers, ports and the stack, and the events that divert the
processor: accepting an interrupt, the return from one, and reset. -/

namespace Sys2Proof.Machine

/-! ### Memory as data -/

/-- Addresses strictly rising. -/
def Memory.rising : Memory → Bool
  | [] => true
  | [_] => true
  | c :: d :: rest => decide (c.1 < d.1) && Memory.rising (d :: rest)

/-- The canonical form: addresses strictly rising and below 2^16 (20_memory.md R50). No cell can equal what an
unlisted address holds, since that is no cell at all (log 2). -/
def Memory.wf (m : Memory) : Bool := Memory.rising m && m.all (fun c => decide (c.1 < 65536))

/-- The byte listed at an address, none where nothing was loaded or written. -/
def Memory.cellAt : Memory → Nat → Option Byte
  | [], _ => none
  | (k, v) :: rest, a => if k = a then some v else Memory.cellAt rest a

/-- `mem[a]`: the byte listed, or the unconstrained byte of `InitMem` where none is (20_memory.md R51, R66; log 2). -/
def Memory.read (m : Memory) (a : Word) : Byte := (Memory.cellAt m a.toNat).getD (Config.initByte a)

/-- The list with the cell of address `a` set, its place kept by address. -/
def Memory.set : Memory → Nat → Byte → Memory
  | [], a, v => [(a, v)]
  | (k, w) :: rest, a, v =>
    if a < k then (a, v) :: (k, w) :: rest
    else if a = k then (a, v) :: rest
    else (k, w) :: Memory.set rest a v

/-- `mem[a] <- v` (20_memory.md R51). -/
def Memory.write (m : Memory) (a : Word) (v : Byte) : Memory := Memory.set m a.toNat v

/-! ### The platform's doors (20_memory.md R65, R66) -/

/-- The next byte the platform's side of the bus gives: the next scripted one, else a free draw (log 3). -/
def State.draw (s : State) : Byte × State :=
  match s.plat.answers with
  | v :: rest => (v, { s with plat := { s.plat with answers := rest } })
  | [] => (Config.freeByte s.plat.draws, { s with plat := { s.plat with draws := s.plat.draws + 1 } })

/-- An event added to the trace. -/
def State.record (s : State) (ev : Event) : State :=
  { s with plat := { s.plat with trace := s.plat.trace ++ [ev] } }

/-- `PortRead(p)`: the platform's answer, recorded (20_memory.md R65, 93_implementation_defined.md U5). -/
def State.portRead (s : State) (p : Byte) : Byte × State :=
  (s.draw.1, s.draw.2.record (.portRead p s.draw.1))

/-- `PortWrite(p, v)`: an event, no change of processor state (20_memory.md R65). -/
def State.portWrite (s : State) (p v : Byte) : State := s.record (.portWrite p v)

/-- The class of an address: that of the first region that holds it, RAM in none (20_memory.md R66; log 5). -/
def classOf (map : List Region) (a : Word) : MemClass :=
  match map.find? (fun r => decide (r.base ≤ a.toNat) && decide (a.toNat < r.base + r.size)) with
  | some r => r.cls
  | none => .ram

/-- The class of an address under the state's `MemMap`. -/
def State.memClass (s : State) (a : Word) : MemClass := classOf s.cfg.memMap a

/-- `MemRead(a, 1)` (20_memory.md R51, R66): RAM and ROM give the byte of `mem`; a device gives a drawn byte and leaves
an event; an absent address gives a drawn byte and leaves none (log 14). -/
def State.memRead (s : State) (a : Word) : Byte × State :=
  match s.memClass a with
  | .ram => (s.mem.read a, s)
  | .rom => (s.mem.read a, s)
  | .device => (s.draw.1, s.draw.2.record (.deviceRead a s.draw.1))
  | .absent => s.draw

/-- `MemWrite(a, 1, v)` (20_memory.md R51, R66): RAM takes the byte; a device is handed it as an event; ROM and absent
addresses drop it. -/
def State.memWrite (s : State) (a : Word) (v : Byte) : State :=
  match s.memClass a with
  | .ram => { s with mem := s.mem.write a v }
  | .rom => s
  | .device => s.record (.deviceWrite a v)
  | .absent => s

/-! ### Registers (10_state.md R20, R21) -/

/-- `x[r]`. -/
def Regs.get (x : Regs) : Reg → Byte
  | .a => x.a | .b => x.b | .c => x.c | .d => x.d | .e => x.e | .h => x.h | .l => x.l

/-- `x[r] <- v`. -/
def Regs.set (x : Regs) (r : Reg) (v : Byte) : Regs :=
  match r with
  | .a => { x with a := v } | .b => { x with b := v } | .c => { x with c := v } | .d => { x with d := v }
  | .e => { x with e := v } | .h => { x with h := v } | .l => { x with l := v }

/-- `x[r]` of a state. -/
def State.reg (s : State) (r : Reg) : Byte := s.regs.get r

/-- `x[r] <- v` of a state. -/
def State.setReg (s : State) (r : Reg) (v : Byte) : State := { s with regs := s.regs.set r v }

/-- The register in bits 15:8 of a pair (10_state.md R21). -/
def hiReg : Pair → Reg
  | .bc => .b | .de => .d | .hl => .h

/-- The register in bits 7:0 of a pair (10_state.md R21). -/
def loReg : Pair → Reg
  | .bc => .c | .de => .e | .hl => .l

/-- `rp[p]` (10_state.md R21). -/
def State.pair (s : State) (p : Pair) : Word := wordOf (s.reg (hiReg p)) (s.reg (loReg p))

/-- `rp[p] <- v`: both halves (10_state.md R21). -/
def State.setPair (s : State) (p : Pair) (v : Word) : State :=
  (s.setReg (hiReg p) (hiByte v)).setReg (loReg p) (loByte v)

/-- `hl`, the address of the operand M (10_state.md R24). -/
def State.hl (s : State) : Word := s.pair .hl

/-! ### The end of an instruction -/

/-- `pc <- next`, and `int_inhibit <- 0` as after every instruction but `EI` (10_state.md R26, 60_exceptions.md R283). -/
def State.advance (s : State) (len : Nat) : State :=
  { s with pc := s.pc + BitVec.ofNat 16 len, intInhibit := false }

/-- `pc <- target` at the end of an instruction (41_jumps_calls.md), and `int_inhibit <- 0`. -/
def State.jump (s : State) (target : Word) : State := { s with pc := target, intInhibit := false }

/-! ### The stack (20_memory.md R53) -/

/-- A push: the high byte at `sp - 1`, then the low byte at `sp - 2`, then `sp <- sp - 2`. -/
def State.push (s : State) (v : Word) : State :=
  { (s.memWrite (s.sp - 1) (hiByte v)).memWrite (s.sp - 2) (loByte v) with sp := s.sp - 2 }

/-- A pop: the low byte from `sp`, then the high byte from `sp + 1`, then `sp <- sp + 2`. -/
def State.pop (s : State) : Word × State :=
  let lo := s.memRead s.sp
  let hi := lo.2.memRead (s.sp + 1)
  (wordOf hi.1 lo.1, { hi.2 with sp := s.sp + 2 })

/-- A call: push the return address, go to the target (41_jumps_calls.md R141). -/
def State.call (s : State) (target ret : Word) : State := (s.push ret).jump target

/-- The address `RST n` goes to, `8 * n` (41_jumps_calls.md R162, 60_exceptions.md R291). -/
def restartTarget (n : Nat) : Word := BitVec.ofNat 16 (8 * n)

/-! ### Taking an interrupt, and the return from one (60_exceptions.md R284 to R287) -/

/-- Where an admitted supplied instruction goes: `RST n` to `8 * n`, `CALL a16` to `a16`; every other instruction,
the alternative calls among them, is not admitted (60_exceptions.md R285). -/
def suppliedTarget (i : Instr) : Option Word :=
  match i with
  | .rst0 => some (restartTarget 0)
  | .rst1 => some (restartTarget 1)
  | .rst2 => some (restartTarget 2)
  | .rst3 => some (restartTarget 3)
  | .rst4 => some (restartTarget 4)
  | .rst5 => some (restartTarget 5)
  | .rst6 => some (restartTarget 6)
  | .rst7 => some (restartTarget 7)
  | .call a16 => some a16
  | _ => none

/-- The acceptance of a request (60_exceptions.md R284): `inte` and `halted` are cleared, nothing is fetched, and the
supplied instruction runs with the unadvanced `pc` as its return address; nothing else is saved. -/
def acceptInterrupt (q : Supply) (s : State) : Result :=
  match suppliedTarget (decodeOp q.op q.b2 q.b3) with
  | some target => .next ({ s with inte := false, halted := false }.call target s.pc)
  | none => .refused (.suppliedNotAdmitted q.op)

/-- The return from a subroutine and from an interrupt handler (60_exceptions.md R287, 41_jumps_calls.md R151): pop
into `pc`; `inte` is not touched. -/
def State.ret (s : State) : State := s.pop.2.jump s.pop.1

/-! ### Reset and the boundary (70_reset_and_hazards.md R320, 60_exceptions.md R283) -/

/-- The effect of an asserted reset on the running machine: four fields are written and nothing else. -/
def State.resetEvent (s : State) : State :=
  { s with pc := 0, inte := false, halted := false, intInhibit := false }

/-- What the platform presents at this boundary (log 4). -/
def State.atBoundary (s : State) : Boundary :=
  match s.plat.boundary with
  | [] => .quiet
  | b :: _ => b

/-- The state with this boundary's entry of the script used up (log 4). -/
def State.pastBoundary (s : State) : State :=
  { s with plat := { s.plat with boundary := s.plat.boundary.tail } }

/-- The request that is accepted at this boundary, if one is: `inte = 1`, `int_inhibit = 0` and the platform
requests, whether or not the processor is halted (60_exceptions.md R283 case 2). -/
def State.acceptedRequest (s : State) : Option Supply :=
  if s.inte && !s.intInhibit then s.atBoundary.request else none

end Sys2Proof.Machine
end

