-- ==== Sys2Proof/Machine/Flags.lean ====
section
/-! DEFINITION. The flag byte and every flag computation (10_state.md R27, R28, 44_alu_8bit.md R210 to R213, R246). -/

namespace Sys2Proof.Machine

/-! ### The byte F (10_state.md R27) -/

/-- F as `PUSH PSW` writes it: `S Z 0 A 0 P 1 C`, bit 7 first. -/
def Flags.toByte (f : Flags) : Byte :=
  BitVec.ofBool f.s ++ BitVec.ofBool f.z ++ 0#1 ++ BitVec.ofBool f.a
    ++ 0#1 ++ BitVec.ofBool f.p ++ 1#1 ++ BitVec.ofBool f.c

/-- F as `POP PSW` loads it: bits 5, 3 and 1 of the byte are ignored (43_load_store_16bit.md R196). -/
def Flags.ofByte (v : Byte) : Flags :=
  { s := v.getLsbD 7, z := v.getLsbD 6, a := v.getLsbD 4, p := v.getLsbD 2, c := v.getLsbD 0 }

/-! ### Sign, zero and parity of a result (44_alu_8bit.md R210) -/

/-- `parity8`: true for an even number of 1 bits (00_scope.md R8). -/
def parity8 (v : Byte) : Bool :=
  !(v.getLsbD 0 ^^ v.getLsbD 1 ^^ v.getLsbD 2 ^^ v.getLsbD 3
    ^^ v.getLsbD 4 ^^ v.getLsbD 5 ^^ v.getLsbD 6 ^^ v.getLsbD 7)

/-- `F.S, F.Z, F.P <- szp(res)`; the other two flags stay. -/
def Flags.szp (f : Flags) (res : Byte) : Flags :=
  { f with s := res.getLsbD 7, z := res == 0, p := parity8 res }

/-! ### Addition and subtraction (44_alu_8bit.md R211, R212) -/

/-- A result with the carry (or borrow) and the auxiliary carry. -/
structure Sum where
  res : Byte
  cy : Bool
  ac : Bool
  deriving DecidableEq, Repr

/-- The low four bits of a byte. -/
def lowNibble (v : Byte) : Nat := (v.extractLsb' 0 4).toNat

/-- The high four bits of a byte. -/
def highNibble (v : Byte) : Nat := (v.extractLsb' 4 4).toNat

/-- `add8(a, b, cin)` (44_alu_8bit.md R211), on the 9-bit sum. -/
def add8 (a b : Byte) (cin : Bool) : Sum :=
  let sum9 : BitVec 9 := a.zeroExtend 9 + b.zeroExtend 9 + BitVec.ofNat 9 cin.toNat
  { res := sum9.extractLsb' 0 8
    cy := sum9.getLsbD 8
    ac := decide (lowNibble a + lowNibble b + cin.toNat > 15) }

/-- `sub8(a, b, bin)` (44_alu_8bit.md R212): the addition of the complement, its carry inverted into a borrow, its
auxiliary carry as it is. -/
def sub8 (a b : Byte) (bin : Bool) : Sum :=
  let r := add8 a (~~~b) (!bin)
  { r with cy := !r.cy }

/-- All five flags from an addition or a subtraction. -/
def Sum.flags (r : Sum) : Flags :=
  Flags.szp { s := false, z := false, a := r.ac, p := false, c := r.cy } r.res

/-! ### The eight accumulator operations (44_alu_8bit.md R211 to R229) -/

/-- The auxiliary carry of `ANA` and `ANI` under the two settings of `AndAuxCarry` (44_alu_8bit.md R213; log 7). -/
def andAux (setting : AndAuxCarry) (a b : Byte) : Bool :=
  match setting with
  | .orBit3 => a.getLsbD 3 || b.getLsbD 3
  | .zero => false

/-- All five flags after a logical operation: C cleared, A as given (44_alu_8bit.md R213). -/
def logicFlags (res : Byte) (ac : Bool) : Flags :=
  Flags.szp { s := false, z := false, a := ac, p := false, c := false } res

/-- The result and the five flags of an accumulator operation on `a` and `b`, with the carry `cy` from before. -/
def aluOp (op : AluOp) (setting : AndAuxCarry) (a b : Byte) (cy : Bool) : Byte × Flags :=
  match op with
  | .add => ((add8 a b false).res, (add8 a b false).flags)
  | .adc => ((add8 a b cy).res, (add8 a b cy).flags)
  | .sub => ((sub8 a b false).res, (sub8 a b false).flags)
  | .sbb => ((sub8 a b cy).res, (sub8 a b cy).flags)
  | .ana => (a &&& b, logicFlags (a &&& b) (andAux setting a b))
  | .xra => (a ^^^ b, logicFlags (a ^^^ b) false)
  | .ora => (a ||| b, logicFlags (a ||| b) false)
  | .cmp => ((sub8 a b false).res, (sub8 a b false).flags)

/-- Whether the operation writes its result to A: all but the compare do (44_alu_8bit.md R228). -/
def writesA : AluOp → Bool
  | .cmp => false
  | .add | .adc | .sub | .sbb | .ana | .xra | .ora => true

/-! ### Increment and decrement (44_alu_8bit.md R238, R240): C is kept -/

/-- The flags after `INR` gave `res`. -/
def incFlags (f : Flags) (res : Byte) : Flags := { f.szp res with a := lowNibble res == 0 }

/-- The flags after `DCR` gave `res`. -/
def decFlags (f : Flags) (res : Byte) : Flags := { f.szp res with a := !(lowNibble res == 15) }

/-! ### Rotates (44_alu_8bit.md R242 to R245): the new A and the new C -/

/-- `RLC`: bit 7 to bit 0 and to the carry. -/
def rotLeft (a : Byte) : Byte × Bool := (a.extractLsb' 0 7 ++ BitVec.ofBool (a.getLsbD 7), a.getLsbD 7)

/-- `RRC`: bit 0 to bit 7 and to the carry. -/
def rotRight (a : Byte) : Byte × Bool := (BitVec.ofBool (a.getLsbD 0) ++ a.extractLsb' 1 7, a.getLsbD 0)

/-- `RAL`: left through the carry. -/
def rotLeftCarry (a : Byte) (cy : Bool) : Byte × Bool := (a.extractLsb' 0 7 ++ BitVec.ofBool cy, a.getLsbD 7)

/-- `RAR`: right through the carry. -/
def rotRightCarry (a : Byte) (cy : Bool) : Byte × Bool := (BitVec.ofBool cy ++ a.extractLsb' 1 7, a.getLsbD 0)

/-! ### Decimal adjust (44_alu_8bit.md R246) -/

/-- Whether the low digit is corrected. -/
def daaLow (f : Flags) (a : Byte) : Bool := f.a || decide (lowNibble a > 9)

/-- Whether the high digit is corrected. -/
def daaHigh (f : Flags) (a : Byte) : Bool :=
  f.c || decide (highNibble a > 9) || (decide (highNibble a ≥ 9) && decide (lowNibble a > 9))

/-- `corr`: 0x00, 0x06, 0x60 or 0x66. -/
def daaCorrection (f : Flags) (a : Byte) : Byte :=
  (if daaLow f a then 0x06 else 0x00) + (if daaHigh f a then 0x60 else 0x00)

/-- The adjusted A and the five flags: one addition of the correction; C is set with the high correction, else kept
(the high correction applies whenever C was set). -/
def daa (f : Flags) (a : Byte) : Byte × Flags :=
  let r := add8 a (daaCorrection f a) false
  (r.res, Sum.flags { r with cy := f.c || daaHigh f a })

/-! ### 16-bit addition (45_alu_16bit.md R272) -/

/-- The 16-bit sum and bit 16 of the 17-bit sum. -/
def add16 (a b : Word) : Word × Bool :=
  let sum17 : BitVec 17 := a.zeroExtend 17 + b.zeroExtend 17
  (sum17.extractLsb' 0 16, sum17.getLsbD 16)

end Sys2Proof.Machine
end

