-- ==== Sys2Proof/Machine/Operands.lean ====
section
/-! DEFINITION. The operand forms of 30_encoding.md R87: a register or M, a 16-bit operand, PSW, a condition. -/

namespace Sys2Proof.Machine

/-- An 8-bit operand named by a 3-bit field: a register, or code 110, M (10_state.md R22, R24). -/
inductive Operand8 where
  | reg (r : Reg)
  | m
  deriving DecidableEq, Repr

/-- The value of an 8-bit operand, and the state after reading it (M: one read at `hl`). -/
def State.readOperand (s : State) : Operand8 → Byte × State
  | .reg r => (s.reg r, s)
  | .m => s.memRead s.hl

/-- An 8-bit operand written (M: one write at `hl`). -/
def State.writeOperand (s : State) (o : Operand8) (v : Byte) : State :=
  match o with
  | .reg r => s.setReg r v
  | .m => s.memWrite s.hl v

/-- The value of a 16-bit operand: a pair or SP (10_state.md R23). -/
def State.pair16 (s : State) : Pair16 → Word
  | .bc => s.pair .bc
  | .de => s.pair .de
  | .hl => s.pair .hl
  | .sp => s.sp

/-- A 16-bit operand written. -/
def State.setPair16 (s : State) (p : Pair16) (v : Word) : State :=
  match p with
  | .bc => s.setPair .bc v
  | .de => s.setPair .de v
  | .hl => s.setPair .hl v
  | .sp => { s with sp := v }

/-- The pair PSW, A in bits 15:8 and F in bits 7:0 (10_state.md R21). -/
def State.psw (s : State) : Word := wordOf s.regs.a s.flags.toByte

/-- PSW written: A, and the five flags from their bits of the low byte (43_load_store_16bit.md R196). -/
def State.setPsw (s : State) (v : Word) : State :=
  { s.setReg .a (hiByte v) with flags := Flags.ofByte (loByte v) }

/-- `cond(CCC)` (41_jumps_calls.md R130). -/
def Flags.cond (f : Flags) : Cond → Bool
  | .nz => !f.z
  | .z => f.z
  | .nc => !f.c
  | .c => f.c
  | .po => !f.p
  | .pe => f.p
  | .p => !f.s
  | .m => f.s

end Sys2Proof.Machine
end

