-- ==== Sys2Proof/Machine/Alu16.lean ====
section
/-! DEFINITION. 16-bit arithmetic (45_alu_16bit.md). One meaning for each opcode, over the shared
operations that stand first. -/

namespace Sys2Proof.Machine

/-- `INX`: no flag (45_alu_16bit.md R270). -/
def inxPair (p : Pair16) (s : State) : Result := .next ((s.setPair16 p (s.pair16 p + 1)).advance 1)

/-- `DCX`: no flag (45_alu_16bit.md R271). -/
def dcxPair (p : Pair16) (s : State) : Result := .next ((s.setPair16 p (s.pair16 p - 1)).advance 1)

/-- `DAD`: the sum to H,L, the carry out of bit 15 to C, no other flag (45_alu_16bit.md R272). -/
def dadPair (p : Pair16) (s : State) : Result :=
  let r := add16 (s.pair .hl) (s.pair16 p)
  .next ({ s.setPair .hl r.1 with flags := { s.flags with c := r.2 } }.advance 1)

/-! ### The meanings -/

/-- `INX B` (0x03): R270. -/
def execInxB (s : State) : Result := inxPair .bc s

/-- `DAD B` (0x09): R272. -/
def execDadB (s : State) : Result := dadPair .bc s

/-- `DCX B` (0x0B): R271. -/
def execDcxB (s : State) : Result := dcxPair .bc s

/-- `INX D` (0x13): R270. -/
def execInxD (s : State) : Result := inxPair .de s

/-- `DAD D` (0x19): R272. -/
def execDadD (s : State) : Result := dadPair .de s

/-- `DCX D` (0x1B): R271. -/
def execDcxD (s : State) : Result := dcxPair .de s

/-- `INX H` (0x23): R270. -/
def execInxH (s : State) : Result := inxPair .hl s

/-- `DAD H` (0x29): R272. -/
def execDadH (s : State) : Result := dadPair .hl s

/-- `DCX H` (0x2B): R271. -/
def execDcxH (s : State) : Result := dcxPair .hl s

/-- `INX SP` (0x33): R270. -/
def execInxSp (s : State) : Result := inxPair .sp s

/-- `DAD SP` (0x39): R272. -/
def execDadSp (s : State) : Result := dadPair .sp s

/-- `DCX SP` (0x3B): R271. -/
def execDcxSp (s : State) : Result := dcxPair .sp s

end Sys2Proof.Machine
end

