-- ==== Sys2Proof/Machine/Alu8.lean ====
section
/-! DEFINITION. 8-bit arithmetic and logic (44_alu_8bit.md). One meaning for each opcode, over the shared
operations that stand first. -/

namespace Sys2Proof.Machine

/-- The end of an accumulator operation: the flags, and A unless the operation is a compare (44_alu_8bit.md R214 to
R237). -/
def accumulate (op : AluOp) (b : Byte) (len : Nat) (s : State) : Result :=
  let r := aluOp op s.cfg.andAuxCarry s.regs.a b s.flags.c
  .next ({ s with flags := r.2, regs := if writesA op then s.regs.set .a r.1 else s.regs }.advance len)

/-- An accumulator operation on a register or M (44_alu_8bit.md R214 to R229). -/
def accumulateWith (op : AluOp) (src : Operand8) (s : State) : Result :=
  accumulate op (s.readOperand src).1 1 (s.readOperand src).2

/-- `INR` (44_alu_8bit.md R238, R239). -/
def increment (o : Operand8) (s : State) : Result :=
  let x := s.readOperand o
  let s1 := x.2.writeOperand o (x.1 + 1)
  .next ({ s1 with flags := incFlags s1.flags (x.1 + 1) }.advance 1)

/-- `DCR` (44_alu_8bit.md R240, R241). -/
def decrement (o : Operand8) (s : State) : Result :=
  let x := s.readOperand o
  let s1 := x.2.writeOperand o (x.1 - 1)
  .next ({ s1 with flags := decFlags s1.flags (x.1 - 1) }.advance 1)

/-- `F.C <- v`, the other flags kept. -/
def State.setCarry (s : State) (v : Bool) : State := { s with flags := { s.flags with c := v } }

/-- A rotate: A and C, no other flag (44_alu_8bit.md R242 to R245). -/
def rotate (r : Byte × Bool) (s : State) : Result := .next (((s.setReg .a r.1).setCarry r.2).advance 1)

/-! ### The meanings -/

/-- `INR B` (0x04): R238. -/
def execInrB (s : State) : Result := increment (.reg .b) s

/-- `DCR B` (0x05): R240. -/
def execDcrB (s : State) : Result := decrement (.reg .b) s

/-- `RLC` (0x07): R242. -/
def execRlc (s : State) : Result := rotate (rotLeft s.regs.a) s

/-- `INR C` (0x0C): R238. -/
def execInrC (s : State) : Result := increment (.reg .c) s

/-- `DCR C` (0x0D): R240. -/
def execDcrC (s : State) : Result := decrement (.reg .c) s

/-- `RRC` (0x0F): R243. -/
def execRrc (s : State) : Result := rotate (rotRight s.regs.a) s

/-- `INR D` (0x14): R238. -/
def execInrD (s : State) : Result := increment (.reg .d) s

/-- `DCR D` (0x15): R240. -/
def execDcrD (s : State) : Result := decrement (.reg .d) s

/-- `RAL` (0x17): R244. -/
def execRal (s : State) : Result := rotate (rotLeftCarry s.regs.a s.flags.c) s

/-- `INR E` (0x1C): R238. -/
def execInrE (s : State) : Result := increment (.reg .e) s

/-- `DCR E` (0x1D): R240. -/
def execDcrE (s : State) : Result := decrement (.reg .e) s

/-- `RAR` (0x1F): R245. -/
def execRar (s : State) : Result := rotate (rotRightCarry s.regs.a s.flags.c) s

/-- `INR H` (0x24): R238. -/
def execInrH (s : State) : Result := increment (.reg .h) s

/-- `DCR H` (0x25): R240. -/
def execDcrH (s : State) : Result := decrement (.reg .h) s

/-- `DAA` (0x27): R246. -/
def execDaa (s : State) : Result := .next ({ s.setReg .a (daa s.flags s.regs.a).1 with flags := (daa s.flags s.regs.a).2 }.advance 1)

/-- `INR L` (0x2C): R238. -/
def execInrL (s : State) : Result := increment (.reg .l) s

/-- `DCR L` (0x2D): R240. -/
def execDcrL (s : State) : Result := decrement (.reg .l) s

/-- `CMA` (0x2F): R247. -/
def execCma (s : State) : Result := .next ((s.setReg .a (~~~s.regs.a)).advance 1)

/-- `INR M` (0x34): R239. -/
def execInrM (s : State) : Result := increment .m s

/-- `DCR M` (0x35): R241. -/
def execDcrM (s : State) : Result := decrement .m s

/-- `STC` (0x37): R248. -/
def execStc (s : State) : Result := .next ((s.setCarry true).advance 1)

/-- `INR A` (0x3C): R238. -/
def execInrA (s : State) : Result := increment (.reg .a) s

/-- `DCR A` (0x3D): R240. -/
def execDcrA (s : State) : Result := decrement (.reg .a) s

/-- `CMC` (0x3F): R249. -/
def execCmc (s : State) : Result := .next ((s.setCarry (!s.flags.c)).advance 1)

/-- `ADD B` (0x80): R214. -/
def execAddB (s : State) : Result := accumulateWith .add (.reg .b) s

/-- `ADD C` (0x81): R214. -/
def execAddC (s : State) : Result := accumulateWith .add (.reg .c) s

/-- `ADD D` (0x82): R214. -/
def execAddD (s : State) : Result := accumulateWith .add (.reg .d) s

/-- `ADD E` (0x83): R214. -/
def execAddE (s : State) : Result := accumulateWith .add (.reg .e) s

/-- `ADD H` (0x84): R214. -/
def execAddH (s : State) : Result := accumulateWith .add (.reg .h) s

/-- `ADD L` (0x85): R214. -/
def execAddL (s : State) : Result := accumulateWith .add (.reg .l) s

/-- `ADD M` (0x86): R215. -/
def execAddM (s : State) : Result := accumulateWith .add .m s

/-- `ADD A` (0x87): R214. -/
def execAddA (s : State) : Result := accumulateWith .add (.reg .a) s

/-- `ADC B` (0x88): R216. -/
def execAdcB (s : State) : Result := accumulateWith .adc (.reg .b) s

/-- `ADC C` (0x89): R216. -/
def execAdcC (s : State) : Result := accumulateWith .adc (.reg .c) s

/-- `ADC D` (0x8A): R216. -/
def execAdcD (s : State) : Result := accumulateWith .adc (.reg .d) s

/-- `ADC E` (0x8B): R216. -/
def execAdcE (s : State) : Result := accumulateWith .adc (.reg .e) s

/-- `ADC H` (0x8C): R216. -/
def execAdcH (s : State) : Result := accumulateWith .adc (.reg .h) s

/-- `ADC L` (0x8D): R216. -/
def execAdcL (s : State) : Result := accumulateWith .adc (.reg .l) s

/-- `ADC M` (0x8E): R217. -/
def execAdcM (s : State) : Result := accumulateWith .adc .m s

/-- `ADC A` (0x8F): R216. -/
def execAdcA (s : State) : Result := accumulateWith .adc (.reg .a) s

/-- `SUB B` (0x90): R218. -/
def execSubB (s : State) : Result := accumulateWith .sub (.reg .b) s

/-- `SUB C` (0x91): R218. -/
def execSubC (s : State) : Result := accumulateWith .sub (.reg .c) s

/-- `SUB D` (0x92): R218. -/
def execSubD (s : State) : Result := accumulateWith .sub (.reg .d) s

/-- `SUB E` (0x93): R218. -/
def execSubE (s : State) : Result := accumulateWith .sub (.reg .e) s

/-- `SUB H` (0x94): R218. -/
def execSubH (s : State) : Result := accumulateWith .sub (.reg .h) s

/-- `SUB L` (0x95): R218. -/
def execSubL (s : State) : Result := accumulateWith .sub (.reg .l) s

/-- `SUB M` (0x96): R219. -/
def execSubM (s : State) : Result := accumulateWith .sub .m s

/-- `SUB A` (0x97): R218. -/
def execSubA (s : State) : Result := accumulateWith .sub (.reg .a) s

/-- `SBB B` (0x98): R220. -/
def execSbbB (s : State) : Result := accumulateWith .sbb (.reg .b) s

/-- `SBB C` (0x99): R220. -/
def execSbbC (s : State) : Result := accumulateWith .sbb (.reg .c) s

/-- `SBB D` (0x9A): R220. -/
def execSbbD (s : State) : Result := accumulateWith .sbb (.reg .d) s

/-- `SBB E` (0x9B): R220. -/
def execSbbE (s : State) : Result := accumulateWith .sbb (.reg .e) s

/-- `SBB H` (0x9C): R220. -/
def execSbbH (s : State) : Result := accumulateWith .sbb (.reg .h) s

/-- `SBB L` (0x9D): R220. -/
def execSbbL (s : State) : Result := accumulateWith .sbb (.reg .l) s

/-- `SBB M` (0x9E): R221. -/
def execSbbM (s : State) : Result := accumulateWith .sbb .m s

/-- `SBB A` (0x9F): R220. -/
def execSbbA (s : State) : Result := accumulateWith .sbb (.reg .a) s

/-- `ANA B` (0xA0): R222. -/
def execAnaB (s : State) : Result := accumulateWith .ana (.reg .b) s

/-- `ANA C` (0xA1): R222. -/
def execAnaC (s : State) : Result := accumulateWith .ana (.reg .c) s

/-- `ANA D` (0xA2): R222. -/
def execAnaD (s : State) : Result := accumulateWith .ana (.reg .d) s

/-- `ANA E` (0xA3): R222. -/
def execAnaE (s : State) : Result := accumulateWith .ana (.reg .e) s

/-- `ANA H` (0xA4): R222. -/
def execAnaH (s : State) : Result := accumulateWith .ana (.reg .h) s

/-- `ANA L` (0xA5): R222. -/
def execAnaL (s : State) : Result := accumulateWith .ana (.reg .l) s

/-- `ANA M` (0xA6): R223. -/
def execAnaM (s : State) : Result := accumulateWith .ana .m s

/-- `ANA A` (0xA7): R222. -/
def execAnaA (s : State) : Result := accumulateWith .ana (.reg .a) s

/-- `XRA B` (0xA8): R224. -/
def execXraB (s : State) : Result := accumulateWith .xra (.reg .b) s

/-- `XRA C` (0xA9): R224. -/
def execXraC (s : State) : Result := accumulateWith .xra (.reg .c) s

/-- `XRA D` (0xAA): R224. -/
def execXraD (s : State) : Result := accumulateWith .xra (.reg .d) s

/-- `XRA E` (0xAB): R224. -/
def execXraE (s : State) : Result := accumulateWith .xra (.reg .e) s

/-- `XRA H` (0xAC): R224. -/
def execXraH (s : State) : Result := accumulateWith .xra (.reg .h) s

/-- `XRA L` (0xAD): R224. -/
def execXraL (s : State) : Result := accumulateWith .xra (.reg .l) s

/-- `XRA M` (0xAE): R225. -/
def execXraM (s : State) : Result := accumulateWith .xra .m s

/-- `XRA A` (0xAF): R224. -/
def execXraA (s : State) : Result := accumulateWith .xra (.reg .a) s

/-- `ORA B` (0xB0): R226. -/
def execOraB (s : State) : Result := accumulateWith .ora (.reg .b) s

/-- `ORA C` (0xB1): R226. -/
def execOraC (s : State) : Result := accumulateWith .ora (.reg .c) s

/-- `ORA D` (0xB2): R226. -/
def execOraD (s : State) : Result := accumulateWith .ora (.reg .d) s

/-- `ORA E` (0xB3): R226. -/
def execOraE (s : State) : Result := accumulateWith .ora (.reg .e) s

/-- `ORA H` (0xB4): R226. -/
def execOraH (s : State) : Result := accumulateWith .ora (.reg .h) s

/-- `ORA L` (0xB5): R226. -/
def execOraL (s : State) : Result := accumulateWith .ora (.reg .l) s

/-- `ORA M` (0xB6): R227. -/
def execOraM (s : State) : Result := accumulateWith .ora .m s

/-- `ORA A` (0xB7): R226. -/
def execOraA (s : State) : Result := accumulateWith .ora (.reg .a) s

/-- `CMP B` (0xB8): R228. -/
def execCmpB (s : State) : Result := accumulateWith .cmp (.reg .b) s

/-- `CMP C` (0xB9): R228. -/
def execCmpC (s : State) : Result := accumulateWith .cmp (.reg .c) s

/-- `CMP D` (0xBA): R228. -/
def execCmpD (s : State) : Result := accumulateWith .cmp (.reg .d) s

/-- `CMP E` (0xBB): R228. -/
def execCmpE (s : State) : Result := accumulateWith .cmp (.reg .e) s

/-- `CMP H` (0xBC): R228. -/
def execCmpH (s : State) : Result := accumulateWith .cmp (.reg .h) s

/-- `CMP L` (0xBD): R228. -/
def execCmpL (s : State) : Result := accumulateWith .cmp (.reg .l) s

/-- `CMP M` (0xBE): R229. -/
def execCmpM (s : State) : Result := accumulateWith .cmp .m s

/-- `CMP A` (0xBF): R228. -/
def execCmpA (s : State) : Result := accumulateWith .cmp (.reg .a) s

/-- `ADI d8` (0xC6): R230. -/
def execAdi (d8 : Byte) (s : State) : Result := accumulate .add d8 2 s

/-- `ACI d8` (0xCE): R231. -/
def execAci (d8 : Byte) (s : State) : Result := accumulate .adc d8 2 s

/-- `SUI d8` (0xD6): R232. -/
def execSui (d8 : Byte) (s : State) : Result := accumulate .sub d8 2 s

/-- `SBI d8` (0xDE): R233. -/
def execSbi (d8 : Byte) (s : State) : Result := accumulate .sbb d8 2 s

/-- `ANI d8` (0xE6): R234. -/
def execAni (d8 : Byte) (s : State) : Result := accumulate .ana d8 2 s

/-- `XRI d8` (0xEE): R235. -/
def execXri (d8 : Byte) (s : State) : Result := accumulate .xra d8 2 s

/-- `ORI d8` (0xF6): R236. -/
def execOri (d8 : Byte) (s : State) : Result := accumulate .ora d8 2 s

/-- `CPI d8` (0xFE): R237. -/
def execCpi (d8 : Byte) (s : State) : Result := accumulate .cmp d8 2 s

end Sys2Proof.Machine
end

