-- ==== Sys2Proof/Machine/Control.lean ====
section
/-! DEFINITION. Misc/control: NOP, the alternative NOPs, HLT, DI, EI, IN, OUT (40_misc_control.md). One meaning for each opcode, over the shared
operations that stand first. -/

namespace Sys2Proof.Machine

/-- The policy on the 12 alternative opcodes (30_encoding.md R91): the plain instruction's result under `execute`, the
refusal the spec names under `refuse` (log 6). -/
def altOpcode (op : Byte) (s : State) (plain : Result) : Result :=
  match s.cfg.altOpcodePolicy with
  | .execute => plain
  | .refuse => .refused (.altOpcode op)

/-- `pc <- next`, nothing else (40_misc_control.md R110). -/
def noOperation (s : State) : Result := .next (s.advance 1)

/-! ### The meanings -/

/-- `NOP` (0x00): R110. -/
def execNop (s : State) : Result := noOperation s

/-- `*NOP` (0x08): R111. -/
def execAltNop08 (s : State) : Result := altOpcode 0x08 s (noOperation s)

/-- `*NOP` (0x10): R111. -/
def execAltNop10 (s : State) : Result := altOpcode 0x10 s (noOperation s)

/-- `*NOP` (0x18): R111. -/
def execAltNop18 (s : State) : Result := altOpcode 0x18 s (noOperation s)

/-- `*NOP` (0x20): R111. -/
def execAltNop20 (s : State) : Result := altOpcode 0x20 s (noOperation s)

/-- `*NOP` (0x28): R111. -/
def execAltNop28 (s : State) : Result := altOpcode 0x28 s (noOperation s)

/-- `*NOP` (0x30): R111. -/
def execAltNop30 (s : State) : Result := altOpcode 0x30 s (noOperation s)

/-- `*NOP` (0x38): R111. -/
def execAltNop38 (s : State) : Result := altOpcode 0x38 s (noOperation s)

/-- `HLT` (0x76): R112. -/
def execHlt (s : State) : Result := .next { s.advance 1 with halted := true }

/-- `OUT d8` (0xD3): R116. -/
def execOutPort (d8 : Byte) (s : State) : Result := .next ((s.portWrite d8 s.regs.a).advance 2)

/-- `IN d8` (0xDB): R115. -/
def execInPort (d8 : Byte) (s : State) : Result := .next (((s.portRead d8).2.setReg .a (s.portRead d8).1).advance 2)

/-- `DI` (0xF3): R113. -/
def execDi (s : State) : Result := .next { s.advance 1 with inte := false }

/-- `EI` (0xFB): R114. -/
def execEi (s : State) : Result := .next { s.advance 1 with inte := true, intInhibit := true }

end Sys2Proof.Machine
end

