-- ==== Sys2Proof/Machine/Jumps.lean ====
section
/-! DEFINITION. Jumps, calls, returns and restarts (41_jumps_calls.md). One meaning for each opcode, over the shared
operations that stand first. -/

namespace Sys2Proof.Machine

/-- A call from an instruction of length `len`: the return address is `next` (41_jumps_calls.md R141, R162). -/
def callNext (target : Word) (len : Nat) (s : State) : Result :=
  .next (s.call target (s.pc + BitVec.ofNat 16 len))

/-- A conditional jump (41_jumps_calls.md R133 to R140). -/
def jumpIf (cc : Cond) (a16 : Word) (s : State) : Result :=
  if s.flags.cond cc then .next (s.jump a16) else .next (s.advance 3)

/-- A conditional call; not taken, it writes no memory and keeps `sp` (41_jumps_calls.md R143 to R150). -/
def callIf (cc : Cond) (a16 : Word) (s : State) : Result :=
  if s.flags.cond cc then callNext a16 3 s else .next (s.advance 3)

/-- A conditional return; not taken, it reads no memory and keeps `sp` (41_jumps_calls.md R153 to R160). -/
def returnIf (cc : Cond) (s : State) : Result :=
  if s.flags.cond cc then .next s.ret else .next (s.advance 1)

/-! ### The meanings -/

/-- `RNZ` (0xC0): R153. -/
def execRnz (s : State) : Result := returnIf .nz s

/-- `JNZ a16` (0xC2): R133. -/
def execJnz (a16 : Word) (s : State) : Result := jumpIf .nz a16 s

/-- `JMP a16` (0xC3): R131. -/
def execJmp (a16 : Word) (s : State) : Result := .next (s.jump a16)

/-- `CNZ a16` (0xC4): R143. -/
def execCnz (a16 : Word) (s : State) : Result := callIf .nz a16 s

/-- `RST 0` (0xC7): R162. -/
def execRst0 (s : State) : Result := callNext (restartTarget 0) 1 s

/-- `RZ` (0xC8): R154. -/
def execRz (s : State) : Result := returnIf .z s

/-- `RET` (0xC9): R151. -/
def execRet (s : State) : Result := .next s.ret

/-- `JZ a16` (0xCA): R134. -/
def execJz (a16 : Word) (s : State) : Result := jumpIf .z a16 s

/-- `*JMP a16` (0xCB): R132. -/
def execAltJmpCB (a16 : Word) (s : State) : Result := altOpcode 0xCB s (.next (s.jump a16))

/-- `CZ a16` (0xCC): R144. -/
def execCz (a16 : Word) (s : State) : Result := callIf .z a16 s

/-- `CALL a16` (0xCD): R141. -/
def execCall (a16 : Word) (s : State) : Result := callNext a16 3 s

/-- `RST 1` (0xCF): R162. -/
def execRst1 (s : State) : Result := callNext (restartTarget 1) 1 s

/-- `RNC` (0xD0): R155. -/
def execRnc (s : State) : Result := returnIf .nc s

/-- `JNC a16` (0xD2): R135. -/
def execJnc (a16 : Word) (s : State) : Result := jumpIf .nc a16 s

/-- `CNC a16` (0xD4): R145. -/
def execCnc (a16 : Word) (s : State) : Result := callIf .nc a16 s

/-- `RST 2` (0xD7): R162. -/
def execRst2 (s : State) : Result := callNext (restartTarget 2) 1 s

/-- `RC` (0xD8): R156. -/
def execRc (s : State) : Result := returnIf .c s

/-- `*RET` (0xD9): R152. -/
def execAltRetD9 (s : State) : Result := altOpcode 0xD9 s (.next s.ret)

/-- `JC a16` (0xDA): R136. -/
def execJc (a16 : Word) (s : State) : Result := jumpIf .c a16 s

/-- `CC a16` (0xDC): R146. -/
def execCc (a16 : Word) (s : State) : Result := callIf .c a16 s

/-- `*CALL a16` (0xDD): R142. -/
def execAltCallDD (a16 : Word) (s : State) : Result := altOpcode 0xDD s (callNext a16 3 s)

/-- `RST 3` (0xDF): R162. -/
def execRst3 (s : State) : Result := callNext (restartTarget 3) 1 s

/-- `RPO` (0xE0): R157. -/
def execRpo (s : State) : Result := returnIf .po s

/-- `JPO a16` (0xE2): R137. -/
def execJpo (a16 : Word) (s : State) : Result := jumpIf .po a16 s

/-- `CPO a16` (0xE4): R147. -/
def execCpo (a16 : Word) (s : State) : Result := callIf .po a16 s

/-- `RST 4` (0xE7): R162. -/
def execRst4 (s : State) : Result := callNext (restartTarget 4) 1 s

/-- `RPE` (0xE8): R158. -/
def execRpe (s : State) : Result := returnIf .pe s

/-- `PCHL` (0xE9): R161. -/
def execPchl (s : State) : Result := .next (s.jump s.hl)

/-- `JPE a16` (0xEA): R138. -/
def execJpe (a16 : Word) (s : State) : Result := jumpIf .pe a16 s

/-- `CPE a16` (0xEC): R148. -/
def execCpe (a16 : Word) (s : State) : Result := callIf .pe a16 s

/-- `*CALL a16` (0xED): R142. -/
def execAltCallED (a16 : Word) (s : State) : Result := altOpcode 0xED s (callNext a16 3 s)

/-- `RST 5` (0xEF): R162. -/
def execRst5 (s : State) : Result := callNext (restartTarget 5) 1 s

/-- `RP` (0xF0): R159. -/
def execRp (s : State) : Result := returnIf .p s

/-- `JP a16` (0xF2): R139. -/
def execJp (a16 : Word) (s : State) : Result := jumpIf .p a16 s

/-- `CP a16` (0xF4): R149. -/
def execCp (a16 : Word) (s : State) : Result := callIf .p a16 s

/-- `RST 6` (0xF7): R162. -/
def execRst6 (s : State) : Result := callNext (restartTarget 6) 1 s

/-- `RM` (0xF8): R160. -/
def execRm (s : State) : Result := returnIf .m s

/-- `JM a16` (0xFA): R140. -/
def execJm (a16 : Word) (s : State) : Result := jumpIf .m a16 s

/-- `CM a16` (0xFC): R150. -/
def execCm (a16 : Word) (s : State) : Result := callIf .m a16 s

/-- `*CALL a16` (0xFD): R142. -/
def execAltCallFD (a16 : Word) (s : State) : Result := altOpcode 0xFD s (callNext a16 3 s)

/-- `RST 7` (0xFF): R162. -/
def execRst7 (s : State) : Result := callNext (restartTarget 7) 1 s

end Sys2Proof.Machine
end

