-- ==== Sys2Proof/Machine/Load16.lean ====
section
/-! DEFINITION. 16-bit loads, stores, moves and the stack instructions (43_load_store_16bit.md). One meaning for each opcode, over the shared
operations that stand first. -/

namespace Sys2Proof.Machine

/-- `LHLD`: L from `a16`, then H from `a16 + 1` (43_load_store_16bit.md R191). -/
def loadHL (a16 : Word) (s : State) : Result :=
  let lo := s.memRead a16
  let hi := lo.2.memRead (a16 + 1)
  .next (((hi.2.setReg .l lo.1).setReg .h hi.1).advance 3)

/-- A push instruction (43_load_store_16bit.md R193, R194). -/
def pushValue (v : Word) (s : State) : Result := .next ((s.push v).advance 1)

/-- `POP rp` (43_load_store_16bit.md R195). -/
def popPair (p : Pair) (s : State) : Result := .next ((s.pop.2.setPair p s.pop.1).advance 1)

/-- `XTHL`: read `sp`, read `sp + 1`, write H at `sp + 1`, write L at `sp`, in that order
(43_load_store_16bit.md R198, 20_memory.md R56). -/
def exchangeTop (s : State) : Result :=
  let lo := s.memRead s.sp
  let hi := lo.2.memRead (s.sp + 1)
  let s1 := (hi.2.memWrite (s.sp + 1) s.regs.h).memWrite s.sp s.regs.l
  .next (((s1.setReg .h hi.1).setReg .l lo.1).advance 1)

/-! ### The meanings -/

/-- `LXI B,d16` (0x01): R190. -/
def execLxiB (d16 : Word) (s : State) : Result := .next ((s.setPair16 .bc d16).advance 3)

/-- `LXI D,d16` (0x11): R190. -/
def execLxiD (d16 : Word) (s : State) : Result := .next ((s.setPair16 .de d16).advance 3)

/-- `LXI H,d16` (0x21): R190. -/
def execLxiH (d16 : Word) (s : State) : Result := .next ((s.setPair16 .hl d16).advance 3)

/-- `SHLD a16` (0x22): R192. -/
def execShld (a16 : Word) (s : State) : Result := .next (((s.memWrite a16 s.regs.l).memWrite (a16 + 1) s.regs.h).advance 3)

/-- `LHLD a16` (0x2A): R191. -/
def execLhld (a16 : Word) (s : State) : Result := loadHL a16 s

/-- `LXI SP,d16` (0x31): R190. -/
def execLxiSp (d16 : Word) (s : State) : Result := .next ((s.setPair16 .sp d16).advance 3)

/-- `POP B` (0xC1): R195. -/
def execPopB (s : State) : Result := popPair .bc s

/-- `PUSH B` (0xC5): R193. -/
def execPushB (s : State) : Result := pushValue (s.pair .bc) s

/-- `POP D` (0xD1): R195. -/
def execPopD (s : State) : Result := popPair .de s

/-- `PUSH D` (0xD5): R193. -/
def execPushD (s : State) : Result := pushValue (s.pair .de) s

/-- `POP H` (0xE1): R195. -/
def execPopH (s : State) : Result := popPair .hl s

/-- `XTHL` (0xE3): R198. -/
def execXthl (s : State) : Result := exchangeTop s

/-- `PUSH H` (0xE5): R193. -/
def execPushH (s : State) : Result := pushValue (s.pair .hl) s

/-- `XCHG` (0xEB): R197. -/
def execXchg (s : State) : Result := .next (((s.setPair .hl (s.pair .de)).setPair .de (s.pair .hl)).advance 1)

/-- `POP PSW` (0xF1): R196. -/
def execPopPsw (s : State) : Result := .next ((s.pop.2.setPsw s.pop.1).advance 1)

/-- `PUSH PSW` (0xF5): R194. -/
def execPushPsw (s : State) : Result := pushValue s.psw s

/-- `SPHL` (0xF9): R199. -/
def execSphl (s : State) : Result := .next ({ s with sp := s.hl }.advance 1)

end Sys2Proof.Machine
end

