-- ==== Sys2Proof/Machine/Load8.lean ====
section
/-! DEFINITION. 8-bit loads, stores and moves (42_load_store_8bit.md). One meaning for each opcode, over the shared
operations that stand first. -/

namespace Sys2Proof.Machine

/-- A move between 8-bit operands: the source is read, at the old `hl` where it is M, then the destination is written
(42_load_store_8bit.md R170 to R172). -/
def move (dst src : Operand8) (s : State) : Result :=
  .next (((s.readOperand src).2.writeOperand dst (s.readOperand src).1).advance 1)

/-- A move of an immediate byte (42_load_store_8bit.md R173, R174). -/
def moveImm (dst : Operand8) (d8 : Byte) (s : State) : Result := .next ((s.writeOperand dst d8).advance 2)

/-- A load of A from an address (42_load_store_8bit.md R175, R177). -/
def loadA (addr : Word) (len : Nat) (s : State) : Result :=
  .next (((s.memRead addr).2.setReg .a (s.memRead addr).1).advance len)

/-- A store of A at an address (42_load_store_8bit.md R176, R178). -/
def storeA (addr : Word) (len : Nat) (s : State) : Result := .next ((s.memWrite addr s.regs.a).advance len)

/-! ### The meanings -/

/-- `STAX B` (0x02): R176. -/
def execStaxB (s : State) : Result := storeA (s.pair .bc) 1 s

/-- `MVI B,d8` (0x06): R173. -/
def execMviB (d8 : Byte) (s : State) : Result := moveImm (.reg .b) d8 s

/-- `LDAX B` (0x0A): R175. -/
def execLdaxB (s : State) : Result := loadA (s.pair .bc) 1 s

/-- `MVI C,d8` (0x0E): R173. -/
def execMviC (d8 : Byte) (s : State) : Result := moveImm (.reg .c) d8 s

/-- `STAX D` (0x12): R176. -/
def execStaxD (s : State) : Result := storeA (s.pair .de) 1 s

/-- `MVI D,d8` (0x16): R173. -/
def execMviD (d8 : Byte) (s : State) : Result := moveImm (.reg .d) d8 s

/-- `LDAX D` (0x1A): R175. -/
def execLdaxD (s : State) : Result := loadA (s.pair .de) 1 s

/-- `MVI E,d8` (0x1E): R173. -/
def execMviE (d8 : Byte) (s : State) : Result := moveImm (.reg .e) d8 s

/-- `MVI H,d8` (0x26): R173. -/
def execMviH (d8 : Byte) (s : State) : Result := moveImm (.reg .h) d8 s

/-- `MVI L,d8` (0x2E): R173. -/
def execMviL (d8 : Byte) (s : State) : Result := moveImm (.reg .l) d8 s

/-- `STA a16` (0x32): R178. -/
def execSta (a16 : Word) (s : State) : Result := storeA a16 3 s

/-- `MVI M,d8` (0x36): R174. -/
def execMviM (d8 : Byte) (s : State) : Result := moveImm .m d8 s

/-- `LDA a16` (0x3A): R177. -/
def execLda (a16 : Word) (s : State) : Result := loadA a16 3 s

/-- `MVI A,d8` (0x3E): R173. -/
def execMviA (d8 : Byte) (s : State) : Result := moveImm (.reg .a) d8 s

/-- `MOV B,B` (0x40): R170. -/
def execMovBB (s : State) : Result := move (.reg .b) (.reg .b) s

/-- `MOV B,C` (0x41): R170. -/
def execMovBC (s : State) : Result := move (.reg .b) (.reg .c) s

/-- `MOV B,D` (0x42): R170. -/
def execMovBD (s : State) : Result := move (.reg .b) (.reg .d) s

/-- `MOV B,E` (0x43): R170. -/
def execMovBE (s : State) : Result := move (.reg .b) (.reg .e) s

/-- `MOV B,H` (0x44): R170. -/
def execMovBH (s : State) : Result := move (.reg .b) (.reg .h) s

/-- `MOV B,L` (0x45): R170. -/
def execMovBL (s : State) : Result := move (.reg .b) (.reg .l) s

/-- `MOV B,M` (0x46): R171. -/
def execMovBM (s : State) : Result := move (.reg .b) .m s

/-- `MOV B,A` (0x47): R170. -/
def execMovBA (s : State) : Result := move (.reg .b) (.reg .a) s

/-- `MOV C,B` (0x48): R170. -/
def execMovCB (s : State) : Result := move (.reg .c) (.reg .b) s

/-- `MOV C,C` (0x49): R170. -/
def execMovCC (s : State) : Result := move (.reg .c) (.reg .c) s

/-- `MOV C,D` (0x4A): R170. -/
def execMovCD (s : State) : Result := move (.reg .c) (.reg .d) s

/-- `MOV C,E` (0x4B): R170. -/
def execMovCE (s : State) : Result := move (.reg .c) (.reg .e) s

/-- `MOV C,H` (0x4C): R170. -/
def execMovCH (s : State) : Result := move (.reg .c) (.reg .h) s

/-- `MOV C,L` (0x4D): R170. -/
def execMovCL (s : State) : Result := move (.reg .c) (.reg .l) s

/-- `MOV C,M` (0x4E): R171. -/
def execMovCM (s : State) : Result := move (.reg .c) .m s

/-- `MOV C,A` (0x4F): R170. -/
def execMovCA (s : State) : Result := move (.reg .c) (.reg .a) s

/-- `MOV D,B` (0x50): R170. -/
def execMovDB (s : State) : Result := move (.reg .d) (.reg .b) s

/-- `MOV D,C` (0x51): R170. -/
def execMovDC (s : State) : Result := move (.reg .d) (.reg .c) s

/-- `MOV D,D` (0x52): R170. -/
def execMovDD (s : State) : Result := move (.reg .d) (.reg .d) s

/-- `MOV D,E` (0x53): R170. -/
def execMovDE (s : State) : Result := move (.reg .d) (.reg .e) s

/-- `MOV D,H` (0x54): R170. -/
def execMovDH (s : State) : Result := move (.reg .d) (.reg .h) s

/-- `MOV D,L` (0x55): R170. -/
def execMovDL (s : State) : Result := move (.reg .d) (.reg .l) s

/-- `MOV D,M` (0x56): R171. -/
def execMovDM (s : State) : Result := move (.reg .d) .m s

/-- `MOV D,A` (0x57): R170. -/
def execMovDA (s : State) : Result := move (.reg .d) (.reg .a) s

/-- `MOV E,B` (0x58): R170. -/
def execMovEB (s : State) : Result := move (.reg .e) (.reg .b) s

/-- `MOV E,C` (0x59): R170. -/
def execMovEC (s : State) : Result := move (.reg .e) (.reg .c) s

/-- `MOV E,D` (0x5A): R170. -/
def execMovED (s : State) : Result := move (.reg .e) (.reg .d) s

/-- `MOV E,E` (0x5B): R170. -/
def execMovEE (s : State) : Result := move (.reg .e) (.reg .e) s

/-- `MOV E,H` (0x5C): R170. -/
def execMovEH (s : State) : Result := move (.reg .e) (.reg .h) s

/-- `MOV E,L` (0x5D): R170. -/
def execMovEL (s : State) : Result := move (.reg .e) (.reg .l) s

/-- `MOV E,M` (0x5E): R171. -/
def execMovEM (s : State) : Result := move (.reg .e) .m s

/-- `MOV E,A` (0x5F): R170. -/
def execMovEA (s : State) : Result := move (.reg .e) (.reg .a) s

/-- `MOV H,B` (0x60): R170. -/
def execMovHB (s : State) : Result := move (.reg .h) (.reg .b) s

/-- `MOV H,C` (0x61): R170. -/
def execMovHC (s : State) : Result := move (.reg .h) (.reg .c) s

/-- `MOV H,D` (0x62): R170. -/
def execMovHD (s : State) : Result := move (.reg .h) (.reg .d) s

/-- `MOV H,E` (0x63): R170. -/
def execMovHE (s : State) : Result := move (.reg .h) (.reg .e) s

/-- `MOV H,H` (0x64): R170. -/
def execMovHH (s : State) : Result := move (.reg .h) (.reg .h) s

/-- `MOV H,L` (0x65): R170. -/
def execMovHL (s : State) : Result := move (.reg .h) (.reg .l) s

/-- `MOV H,M` (0x66): R171. -/
def execMovHM (s : State) : Result := move (.reg .h) .m s

/-- `MOV H,A` (0x67): R170. -/
def execMovHA (s : State) : Result := move (.reg .h) (.reg .a) s

/-- `MOV L,B` (0x68): R170. -/
def execMovLB (s : State) : Result := move (.reg .l) (.reg .b) s

/-- `MOV L,C` (0x69): R170. -/
def execMovLC (s : State) : Result := move (.reg .l) (.reg .c) s

/-- `MOV L,D` (0x6A): R170. -/
def execMovLD (s : State) : Result := move (.reg .l) (.reg .d) s

/-- `MOV L,E` (0x6B): R170. -/
def execMovLE (s : State) : Result := move (.reg .l) (.reg .e) s

/-- `MOV L,H` (0x6C): R170. -/
def execMovLH (s : State) : Result := move (.reg .l) (.reg .h) s

/-- `MOV L,L` (0x6D): R170. -/
def execMovLL (s : State) : Result := move (.reg .l) (.reg .l) s

/-- `MOV L,M` (0x6E): R171. -/
def execMovLM (s : State) : Result := move (.reg .l) .m s

/-- `MOV L,A` (0x6F): R170. -/
def execMovLA (s : State) : Result := move (.reg .l) (.reg .a) s

/-- `MOV M,B` (0x70): R172. -/
def execMovMB (s : State) : Result := move .m (.reg .b) s

/-- `MOV M,C` (0x71): R172. -/
def execMovMC (s : State) : Result := move .m (.reg .c) s

/-- `MOV M,D` (0x72): R172. -/
def execMovMD (s : State) : Result := move .m (.reg .d) s

/-- `MOV M,E` (0x73): R172. -/
def execMovME (s : State) : Result := move .m (.reg .e) s

/-- `MOV M,H` (0x74): R172. -/
def execMovMH (s : State) : Result := move .m (.reg .h) s

/-- `MOV M,L` (0x75): R172. -/
def execMovML (s : State) : Result := move .m (.reg .l) s

/-- `MOV M,A` (0x77): R172. -/
def execMovMA (s : State) : Result := move .m (.reg .a) s

/-- `MOV A,B` (0x78): R170. -/
def execMovAB (s : State) : Result := move (.reg .a) (.reg .b) s

/-- `MOV A,C` (0x79): R170. -/
def execMovAC (s : State) : Result := move (.reg .a) (.reg .c) s

/-- `MOV A,D` (0x7A): R170. -/
def execMovAD (s : State) : Result := move (.reg .a) (.reg .d) s

/-- `MOV A,E` (0x7B): R170. -/
def execMovAE (s : State) : Result := move (.reg .a) (.reg .e) s

/-- `MOV A,H` (0x7C): R170. -/
def execMovAH (s : State) : Result := move (.reg .a) (.reg .h) s

/-- `MOV A,L` (0x7D): R170. -/
def execMovAL (s : State) : Result := move (.reg .a) (.reg .l) s

/-- `MOV A,M` (0x7E): R171. -/
def execMovAM (s : State) : Result := move (.reg .a) .m s

/-- `MOV A,A` (0x7F): R170. -/
def execMovAA (s : State) : Result := move (.reg .a) (.reg .a) s

end Sys2Proof.Machine
end

