-- ==== Sys2Proof/Machine/Fetch.lean ====
section
/-! DEFINITION. Fetching an instruction, and placing one where it will be fetched (30_encoding.md R89, 20_memory.md R68). -/

namespace Sys2Proof.Machine

/-- The instruction at `pc`, and the state after reading it: the opcode first, then as many bytes as its length asks,
in ascending order modulo 2^16, and none beyond (20_memory.md R68, R55). -/
def State.fetch (s : State) : Instr × State :=
  let x1 := s.memRead s.pc
  match opLength x1.1 with
  | 1 => (decodeOp x1.1 0 0, x1.2)
  | 2 =>
    let x2 := x1.2.memRead (s.pc + 1)
    (decodeOp x1.1 x2.1 0, x2.2)
  | _ =>
    let x2 := x1.2.memRead (s.pc + 1)
    let x3 := x2.2.memRead (s.pc + 2)
    (decodeOp x1.1 x2.1 x3.1, x3.2)

/-- Memory with a list of bytes stored from an address up, modulo 2^16. -/
def Memory.load (m : Memory) (a : Word) : List Byte → Memory
  | [] => m
  | v :: rest => Memory.load (m.write a v) (a + 1) rest

/-- The script with nothing presented at this boundary; an empty script stays empty. -/
def quietNow : List Boundary → List Boundary
  | [] => []
  | _ :: rest => .quiet :: rest

/-- The state whose next step runs the instruction of the bits `w`: its three bytes at `pc`, the processor not halted,
and neither reset nor a request at this boundary. (An address that `MemMap` calls a device or absent would not give
back the bytes; after reset all are RAM.) -/
def State.placeWord (s : State) (nbits w : Nat) : State :=
  { s with
    mem := s.mem.load s.pc (tableBytes nbits w)
    halted := false
    plat := { s.plat with boundary := quietNow s.plat.boundary } }

end Sys2Proof.Machine
end

