-- ==== Sys2Proof/Machine/Step.lean ====
section
/-! DEFINITION. One step of the machine (60_exceptions.md R283). -/

namespace Sys2Proof.Machine

/-- One step from a boundary, in the order of precedence of 60_exceptions.md R283: an asserted reset; an accepted
request; nothing while halted; else one instruction, fetched and executed. Each step uses up one entry of the
platform's boundary script (log 4). -/
def step (s : State) : Host.Outcome State Fault Refusal :=
  if s.atBoundary.reset then .next s.pastBoundary.resetEvent
  else
    match s.acceptedRequest with
    | some q => acceptInterrupt q s.pastBoundary
    | none =>
      if s.halted then .next s.pastBoundary
      else exec s.pastBoundary.fetch.1 s.pastBoundary.fetch.2

/-- The state with an instruction of spec/opcode_table.json placed where `step` fetches next (log 15). -/
def State.withFetchWord (s : State) (nbits w : Nat) : State := s.placeWord nbits w

end Sys2Proof.Machine
end

