-- ==== Sys2Proof/Machine/Chart.lean ====
section
/-! DEFINITION. What the opcode chart says of each opcode beside its mnemonic and length: the flags it affects
(10_state.md R29, 30_encoding.md R88) and its duration (70_reset_and_hazards.md R323). Data only: no rule of the step
uses either (R324; log 16). -/

namespace Sys2Proof.Machine

/-- A set of flags, as the chart's third line gives it. -/
structure FlagSet where
  s : Bool
  z : Bool
  a : Bool
  p : Bool
  c : Bool
  deriving DecidableEq, Repr

/-- `-----`. -/
def FlagSet.none : FlagSet := { s := false, z := false, a := false, p := false, c := false }
/-- `SZAPC`. -/
def FlagSet.all : FlagSet := { s := true, z := true, a := true, p := true, c := true }
/-- `SZAP-`. -/
def FlagSet.szap : FlagSet := { s := true, z := true, a := true, p := true, c := false }
/-- `----C`. -/
def FlagSet.carry : FlagSet := { s := false, z := false, a := false, p := false, c := true }

/-- The flags column of 30_encoding.md R88, row by row of the opcode map. -/
def flagChart (row : Nat) : List FlagSet :=
  match row with
  | 0 => [.none, .none, .none, .none, .szap, .szap, .none, .carry, .none, .carry, .none, .none, .szap, .szap, .none, .carry]
  | 1 => [.none, .none, .none, .none, .szap, .szap, .none, .carry, .none, .carry, .none, .none, .szap, .szap, .none, .carry]
  | 2 => [.none, .none, .none, .none, .szap, .szap, .none, .all, .none, .carry, .none, .none, .szap, .szap, .none, .none]
  | 3 => [.none, .none, .none, .none, .szap, .szap, .none, .carry, .none, .carry, .none, .none, .szap, .szap, .none, .carry]
  | 4 => [.none, .none, .none, .none, .none, .none, .none, .none, .none, .none, .none, .none, .none, .none, .none, .none]
  | 5 => [.none, .none, .none, .none, .none, .none, .none, .none, .none, .none, .none, .none, .none, .none, .none, .none]
  | 6 => [.none, .none, .none, .none, .none, .none, .none, .none, .none, .none, .none, .none, .none, .none, .none, .none]
  | 7 => [.none, .none, .none, .none, .none, .none, .none, .none, .none, .none, .none, .none, .none, .none, .none, .none]
  | 8 => [.all, .all, .all, .all, .all, .all, .all, .all, .all, .all, .all, .all, .all, .all, .all, .all]
  | 9 => [.all, .all, .all, .all, .all, .all, .all, .all, .all, .all, .all, .all, .all, .all, .all, .all]
  | 10 => [.all, .all, .all, .all, .all, .all, .all, .all, .all, .all, .all, .all, .all, .all, .all, .all]
  | 11 => [.all, .all, .all, .all, .all, .all, .all, .all, .all, .all, .all, .all, .all, .all, .all, .all]
  | 12 => [.none, .none, .none, .none, .none, .none, .all, .none, .none, .none, .none, .none, .none, .none, .all, .none]
  | 13 => [.none, .none, .none, .none, .none, .none, .all, .none, .none, .none, .none, .none, .none, .none, .all, .none]
  | 14 => [.none, .none, .none, .none, .none, .none, .all, .none, .none, .none, .none, .none, .none, .none, .all, .none]
  | _ => [.none, .all, .none, .none, .none, .none, .all, .none, .none, .none, .none, .none, .none, .none, .all, .none]

/-- The duration column of 30_encoding.md R88, row by row: cycles when the action is taken, and when it is not. -/
def durationChart (row : Nat) : List (Nat × Nat) :=
  match row with
  | 0 => [(4, 4), (10, 10), (7, 7), (5, 5), (5, 5), (5, 5), (7, 7), (4, 4), (4, 4), (10, 10), (7, 7), (5, 5), (5, 5), (5, 5), (7, 7), (4, 4)]
  | 1 => [(4, 4), (10, 10), (7, 7), (5, 5), (5, 5), (5, 5), (7, 7), (4, 4), (4, 4), (10, 10), (7, 7), (5, 5), (5, 5), (5, 5), (7, 7), (4, 4)]
  | 2 => [(4, 4), (10, 10), (16, 16), (5, 5), (5, 5), (5, 5), (7, 7), (4, 4), (4, 4), (10, 10), (16, 16), (5, 5), (5, 5), (5, 5), (7, 7), (4, 4)]
  | 3 => [(4, 4), (10, 10), (13, 13), (5, 5), (10, 10), (10, 10), (10, 10), (4, 4), (4, 4), (10, 10), (13, 13), (5, 5), (5, 5), (5, 5), (7, 7), (4, 4)]
  | 4 => [(5, 5), (5, 5), (5, 5), (5, 5), (5, 5), (5, 5), (7, 7), (5, 5), (5, 5), (5, 5), (5, 5), (5, 5), (5, 5), (5, 5), (7, 7), (5, 5)]
  | 5 => [(5, 5), (5, 5), (5, 5), (5, 5), (5, 5), (5, 5), (7, 7), (5, 5), (5, 5), (5, 5), (5, 5), (5, 5), (5, 5), (5, 5), (7, 7), (5, 5)]
  | 6 => [(5, 5), (5, 5), (5, 5), (5, 5), (5, 5), (5, 5), (7, 7), (5, 5), (5, 5), (5, 5), (5, 5), (5, 5), (5, 5), (5, 5), (7, 7), (5, 5)]
  | 7 => [(7, 7), (7, 7), (7, 7), (7, 7), (7, 7), (7, 7), (7, 7), (7, 7), (5, 5), (5, 5), (5, 5), (5, 5), (5, 5), (5, 5), (7, 7), (5, 5)]
  | 8 => [(4, 4), (4, 4), (4, 4), (4, 4), (4, 4), (4, 4), (7, 7), (4, 4), (4, 4), (4, 4), (4, 4), (4, 4), (4, 4), (4, 4), (7, 7), (4, 4)]
  | 9 => [(4, 4), (4, 4), (4, 4), (4, 4), (4, 4), (4, 4), (7, 7), (4, 4), (4, 4), (4, 4), (4, 4), (4, 4), (4, 4), (4, 4), (7, 7), (4, 4)]
  | 10 => [(4, 4), (4, 4), (4, 4), (4, 4), (4, 4), (4, 4), (7, 7), (4, 4), (4, 4), (4, 4), (4, 4), (4, 4), (4, 4), (4, 4), (7, 7), (4, 4)]
  | 11 => [(4, 4), (4, 4), (4, 4), (4, 4), (4, 4), (4, 4), (7, 7), (4, 4), (4, 4), (4, 4), (4, 4), (4, 4), (4, 4), (4, 4), (7, 7), (4, 4)]
  | 12 => [(11, 5), (10, 10), (10, 10), (10, 10), (17, 11), (11, 11), (7, 7), (11, 11), (11, 5), (10, 10), (10, 10), (10, 10), (17, 11), (17, 17), (7, 7), (11, 11)]
  | 13 => [(11, 5), (10, 10), (10, 10), (10, 10), (17, 11), (11, 11), (7, 7), (11, 11), (11, 5), (10, 10), (10, 10), (10, 10), (17, 11), (17, 17), (7, 7), (11, 11)]
  | 14 => [(11, 5), (10, 10), (10, 10), (18, 18), (17, 11), (11, 11), (7, 7), (11, 11), (11, 5), (5, 5), (10, 10), (5, 5), (17, 11), (17, 17), (7, 7), (11, 11)]
  | _ => [(11, 5), (10, 10), (10, 10), (4, 4), (17, 11), (11, 11), (7, 7), (11, 11), (11, 5), (5, 5), (10, 10), (4, 4), (17, 11), (17, 17), (7, 7), (11, 11)]

/-- The flags an opcode affects (10_state.md R29). -/
def flagsAffected (op : Byte) : FlagSet :=
  (flagChart (op.extractLsb' 4 4).toNat).getD (op.extractLsb' 0 4).toNat .none

/-- The duration of an opcode in the source's cycles, action taken and not taken (70_reset_and_hazards.md R323). -/
def duration (op : Byte) : Nat × Nat :=
  (durationChart (op.extractLsb' 4 4).toNat).getD (op.extractLsb' 0 4).toNat (0, 0)

end Sys2Proof.Machine
end

