-- ==== Sys2Proof/Safety.lean ====
section
/-! DEFINITION. The terms claims are made in: the invariant of the machine, final states, for each instruction which
registers and which bytes of memory its rule writes (10_state.md R40, 20_memory.md R56), and the spec's 8-bit
arithmetic and conditions, on numbers. -/

namespace Sys2Proof.Machine

/-- The invariant of 60_exceptions.md R283 and of the memory's form: the memory is canonical; a halted processor has
`int_inhibit = 0`; `int_inhibit = 1` implies `inte = 1`. -/
def State.Inv (s : State) : Prop :=
  Memory.wf s.mem = true ∧ (s.halted = true → s.intInhibit = false) ∧ (s.intInhibit = true → s.inte = true)

/-- A final state: halted with interrupts disabled (70_reset_and_hazards.md R325). -/
def State.final (s : State) : Bool := s.halted && !s.inte

/-- The 12 alternative opcodes (30_encoding.md R91). -/
def altOpcodes : List Byte :=
  [0x08, 0x10, 0x18, 0x20, 0x28, 0x30, 0x38, 0xCB, 0xD9, 0xDD, 0xED, 0xFD]

/-- The opcodes a device may supply: `RST 0` to `RST 7` and `CALL` (60_exceptions.md R285). -/
def suppliable : List Byte := [0xC7, 0xCF, 0xD7, 0xDF, 0xE7, 0xEF, 0xF7, 0xFF, 0xCD]

/-- The registers an instruction writes (10_state.md R40). -/
def writtenRegs (i : Instr) : List Reg :=
  match i with
  | .rlc | .ldaxB | .rrc | .ral | .ldaxD | .rar | .daa | .cma | .lda _ | .inrA | .dcrA | .mviA _ | .movAB | .movAC
  | .movAD | .movAE | .movAH | .movAL | .movAM | .movAA | .addB | .addC | .addD | .addE | .addH | .addL | .addM
  | .addA | .adcB | .adcC | .adcD | .adcE | .adcH | .adcL | .adcM | .adcA | .subB | .subC | .subD | .subE | .subH
  | .subL | .subM | .subA | .sbbB | .sbbC | .sbbD | .sbbE | .sbbH | .sbbL | .sbbM | .sbbA | .anaB | .anaC | .anaD
  | .anaE | .anaH | .anaL | .anaM | .anaA | .xraB | .xraC | .xraD | .xraE | .xraH | .xraL | .xraM | .xraA | .oraB
  | .oraC | .oraD | .oraE | .oraH | .oraL | .oraM | .oraA | .adi _ | .aci _ | .sui _ | .inPort _ | .sbi _ | .ani _
  | .xri _ | .popPsw | .ori _ =>
    [.a]
  | .inrB | .dcrB | .mviB _ | .movBB | .movBC | .movBD | .movBE | .movBH | .movBL | .movBM | .movBA =>
    [.b]
  | .inrC | .dcrC | .mviC _ | .movCB | .movCC | .movCD | .movCE | .movCH | .movCL | .movCM | .movCA =>
    [.c]
  | .inrD | .dcrD | .mviD _ | .movDB | .movDC | .movDD | .movDE | .movDH | .movDL | .movDM | .movDA =>
    [.d]
  | .inrE | .dcrE | .mviE _ | .movEB | .movEC | .movED | .movEE | .movEH | .movEL | .movEM | .movEA =>
    [.e]
  | .inrH | .dcrH | .mviH _ | .movHB | .movHC | .movHD | .movHE | .movHH | .movHL | .movHM | .movHA =>
    [.h]
  | .inrL | .dcrL | .mviL _ | .movLB | .movLC | .movLD | .movLE | .movLH | .movLL | .movLM | .movLA =>
    [.l]
  | .lxiB _ | .inxB | .dcxB | .popB =>
    [.b, .c]
  | .lxiD _ | .inxD | .dcxD | .popD =>
    [.d, .e]
  | .dadB | .dadD | .lxiH _ | .inxH | .dadH | .lhld _ | .dcxH | .dadSp | .popH | .xthl =>
    [.h, .l]
  | .xchg =>
    [.d, .e, .h, .l]
  | .nop | .staxB | .altNop08 | .altNop10 | .staxD | .altNop18 | .altNop20 | .shld _ | .altNop28 | .altNop30
  | .lxiSp _ | .sta _ | .inxSp | .inrM | .dcrM | .mviM _ | .stc | .altNop38 | .dcxSp | .cmc | .movMB | .movMC
  | .movMD | .movME | .movMH | .movML | .hlt | .movMA | .cmpB | .cmpC | .cmpD | .cmpE | .cmpH | .cmpL | .cmpM
  | .cmpA | .rnz | .jnz _ | .jmp _ | .cnz _ | .pushB | .rst0 | .rz | .ret | .jz _ | .altJmpCB _ | .cz _ | .call _
  | .rst1 | .rnc | .jnc _ | .outPort _ | .cnc _ | .pushD | .rst2 | .rc | .altRetD9 | .jc _ | .cc _ | .altCallDD _
  | .rst3 | .rpo | .jpo _ | .cpo _ | .pushH | .rst4 | .rpe | .pchl | .jpe _ | .cpe _ | .altCallED _ | .rst5 | .rp
  | .jp _ | .di | .cp _ | .pushPsw | .rst6 | .rm | .sphl | .jm _ | .ei | .cm _ | .altCallFD _ | .cpi _ | .rst7 =>
    []

/-- The instructions that write SP (10_state.md R40); the conditional calls and returns do so when taken. -/
def writesSp (i : Instr) : Bool :=
  match i with
  | .lxiSp _ | .inxSp | .dcxSp | .rnz | .popB | .cnz _ | .pushB | .rst0 | .rz | .ret | .cz _ | .call _ | .rst1
  | .rnc | .popD | .cnc _ | .pushD | .rst2 | .rc | .altRetD9 | .cc _ | .altCallDD _ | .rst3 | .rpo | .popH | .cpo _
  | .pushH | .rst4 | .rpe | .cpe _ | .altCallED _ | .rst5 | .rp | .popPsw | .cp _ | .pushPsw | .rst6 | .rm | .sphl
  | .cm _ | .altCallFD _ | .rst7 =>
    true
  | .nop | .lxiB _ | .staxB | .inxB | .inrB | .dcrB | .mviB _ | .rlc | .altNop08 | .dadB | .ldaxB | .dcxB | .inrC
  | .dcrC | .mviC _ | .rrc | .altNop10 | .lxiD _ | .staxD | .inxD | .inrD | .dcrD | .mviD _ | .ral | .altNop18
  | .dadD | .ldaxD | .dcxD | .inrE | .dcrE | .mviE _ | .rar | .altNop20 | .lxiH _ | .shld _ | .inxH | .inrH | .dcrH
  | .mviH _ | .daa | .altNop28 | .dadH | .lhld _ | .dcxH | .inrL | .dcrL | .mviL _ | .cma | .altNop30 | .sta _
  | .inrM | .dcrM | .mviM _ | .stc | .altNop38 | .dadSp | .lda _ | .inrA | .dcrA | .mviA _ | .cmc | .movBB | .movBC
  | .movBD | .movBE | .movBH | .movBL | .movBM | .movBA | .movCB | .movCC | .movCD | .movCE | .movCH | .movCL
  | .movCM | .movCA | .movDB | .movDC | .movDD | .movDE | .movDH | .movDL | .movDM | .movDA | .movEB | .movEC
  | .movED | .movEE | .movEH | .movEL | .movEM | .movEA | .movHB | .movHC | .movHD | .movHE | .movHH | .movHL
  | .movHM | .movHA | .movLB | .movLC | .movLD | .movLE | .movLH | .movLL | .movLM | .movLA | .movMB | .movMC
  | .movMD | .movME | .movMH | .movML | .hlt | .movMA | .movAB | .movAC | .movAD | .movAE | .movAH | .movAL
  | .movAM | .movAA | .addB | .addC | .addD | .addE | .addH | .addL | .addM | .addA | .adcB | .adcC | .adcD | .adcE
  | .adcH | .adcL | .adcM | .adcA | .subB | .subC | .subD | .subE | .subH | .subL | .subM | .subA | .sbbB | .sbbC
  | .sbbD | .sbbE | .sbbH | .sbbL | .sbbM | .sbbA | .anaB | .anaC | .anaD | .anaE | .anaH | .anaL | .anaM | .anaA
  | .xraB | .xraC | .xraD | .xraE | .xraH | .xraL | .xraM | .xraA | .oraB | .oraC | .oraD | .oraE | .oraH | .oraL
  | .oraM | .oraA | .cmpB | .cmpC | .cmpD | .cmpE | .cmpH | .cmpL | .cmpM | .cmpA | .jnz _ | .jmp _ | .adi _
  | .jz _ | .altJmpCB _ | .aci _ | .jnc _ | .outPort _ | .sui _ | .jc _ | .inPort _ | .sbi _ | .jpo _ | .xthl
  | .ani _ | .pchl | .jpe _ | .xchg | .xri _ | .jp _ | .di | .ori _ | .jm _ | .ei | .cpi _ =>
    false

/-- The instructions whose rule writes `pc` (10_state.md R26). -/
def writesPc (i : Instr) : Bool :=
  match i with
  | .rnz | .jnz _ | .jmp _ | .cnz _ | .rst0 | .rz | .ret | .jz _ | .altJmpCB _ | .cz _ | .call _ | .rst1 | .rnc
  | .jnc _ | .cnc _ | .rst2 | .rc | .altRetD9 | .jc _ | .cc _ | .altCallDD _ | .rst3 | .rpo | .jpo _ | .cpo _
  | .rst4 | .rpe | .pchl | .jpe _ | .cpe _ | .altCallED _ | .rst5 | .rp | .jp _ | .cp _ | .rst6 | .rm | .jm _
  | .cm _ | .altCallFD _ | .rst7 =>
    true
  | .nop | .lxiB _ | .staxB | .inxB | .inrB | .dcrB | .mviB _ | .rlc | .altNop08 | .dadB | .ldaxB | .dcxB | .inrC
  | .dcrC | .mviC _ | .rrc | .altNop10 | .lxiD _ | .staxD | .inxD | .inrD | .dcrD | .mviD _ | .ral | .altNop18
  | .dadD | .ldaxD | .dcxD | .inrE | .dcrE | .mviE _ | .rar | .altNop20 | .lxiH _ | .shld _ | .inxH | .inrH | .dcrH
  | .mviH _ | .daa | .altNop28 | .dadH | .lhld _ | .dcxH | .inrL | .dcrL | .mviL _ | .cma | .altNop30 | .lxiSp _
  | .sta _ | .inxSp | .inrM | .dcrM | .mviM _ | .stc | .altNop38 | .dadSp | .lda _ | .dcxSp | .inrA | .dcrA
  | .mviA _ | .cmc | .movBB | .movBC | .movBD | .movBE | .movBH | .movBL | .movBM | .movBA | .movCB | .movCC
  | .movCD | .movCE | .movCH | .movCL | .movCM | .movCA | .movDB | .movDC | .movDD | .movDE | .movDH | .movDL
  | .movDM | .movDA | .movEB | .movEC | .movED | .movEE | .movEH | .movEL | .movEM | .movEA | .movHB | .movHC
  | .movHD | .movHE | .movHH | .movHL | .movHM | .movHA | .movLB | .movLC | .movLD | .movLE | .movLH | .movLL
  | .movLM | .movLA | .movMB | .movMC | .movMD | .movME | .movMH | .movML | .hlt | .movMA | .movAB | .movAC
  | .movAD | .movAE | .movAH | .movAL | .movAM | .movAA | .addB | .addC | .addD | .addE | .addH | .addL | .addM
  | .addA | .adcB | .adcC | .adcD | .adcE | .adcH | .adcL | .adcM | .adcA | .subB | .subC | .subD | .subE | .subH
  | .subL | .subM | .subA | .sbbB | .sbbC | .sbbD | .sbbE | .sbbH | .sbbL | .sbbM | .sbbA | .anaB | .anaC | .anaD
  | .anaE | .anaH | .anaL | .anaM | .anaA | .xraB | .xraC | .xraD | .xraE | .xraH | .xraL | .xraM | .xraA | .oraB
  | .oraC | .oraD | .oraE | .oraH | .oraL | .oraM | .oraA | .cmpB | .cmpC | .cmpD | .cmpE | .cmpH | .cmpL | .cmpM
  | .cmpA | .popB | .pushB | .adi _ | .aci _ | .popD | .outPort _ | .pushD | .sui _ | .inPort _ | .sbi _ | .popH
  | .xthl | .pushH | .ani _ | .xchg | .xri _ | .popPsw | .di | .pushPsw | .ori _ | .sphl | .ei | .cpi _ =>
    false

/-- The two bytes a push writes (20_memory.md R53). -/
def stackBytes (s : State) : List Word := [s.sp - 1, s.sp - 2]

/-- The addresses an instruction stores to from a state (20_memory.md R56, 10_state.md R40). -/
def storedBytes (i : Instr) (s : State) : List Word :=
  match i with
  | .shld a16 => [a16, a16 + 1]
  | .sta a16 => [a16]
  | .nop | .lxiB _ | .inxB | .inrB | .dcrB | .mviB _ | .rlc | .altNop08 | .dadB | .ldaxB | .dcxB | .inrC | .dcrC
  | .mviC _ | .rrc | .altNop10 | .lxiD _ | .inxD | .inrD | .dcrD | .mviD _ | .ral | .altNop18 | .dadD | .ldaxD
  | .dcxD | .inrE | .dcrE | .mviE _ | .rar | .altNop20 | .lxiH _ | .inxH | .inrH | .dcrH | .mviH _ | .daa
  | .altNop28 | .dadH | .lhld _ | .dcxH | .inrL | .dcrL | .mviL _ | .cma | .altNop30 | .lxiSp _ | .inxSp | .stc
  | .altNop38 | .dadSp | .lda _ | .dcxSp | .inrA | .dcrA | .mviA _ | .cmc | .movBB | .movBC | .movBD | .movBE
  | .movBH | .movBL | .movBM | .movBA | .movCB | .movCC | .movCD | .movCE | .movCH | .movCL | .movCM | .movCA
  | .movDB | .movDC | .movDD | .movDE | .movDH | .movDL | .movDM | .movDA | .movEB | .movEC | .movED | .movEE
  | .movEH | .movEL | .movEM | .movEA | .movHB | .movHC | .movHD | .movHE | .movHH | .movHL | .movHM | .movHA
  | .movLB | .movLC | .movLD | .movLE | .movLH | .movLL | .movLM | .movLA | .hlt | .movAB | .movAC | .movAD
  | .movAE | .movAH | .movAL | .movAM | .movAA | .addB | .addC | .addD | .addE | .addH | .addL | .addM | .addA
  | .adcB | .adcC | .adcD | .adcE | .adcH | .adcL | .adcM | .adcA | .subB | .subC | .subD | .subE | .subH | .subL
  | .subM | .subA | .sbbB | .sbbC | .sbbD | .sbbE | .sbbH | .sbbL | .sbbM | .sbbA | .anaB | .anaC | .anaD | .anaE
  | .anaH | .anaL | .anaM | .anaA | .xraB | .xraC | .xraD | .xraE | .xraH | .xraL | .xraM | .xraA | .oraB | .oraC
  | .oraD | .oraE | .oraH | .oraL | .oraM | .oraA | .cmpB | .cmpC | .cmpD | .cmpE | .cmpH | .cmpL | .cmpM | .cmpA
  | .rnz | .popB | .jnz _ | .jmp _ | .adi _ | .rz | .ret | .jz _ | .altJmpCB _ | .aci _ | .rnc | .popD | .jnc _
  | .outPort _ | .sui _ | .rc | .altRetD9 | .jc _ | .inPort _ | .sbi _ | .rpo | .popH | .jpo _ | .ani _ | .rpe
  | .pchl | .jpe _ | .xchg | .xri _ | .rp | .popPsw | .jp _ | .di | .ori _ | .rm | .sphl | .jm _ | .ei | .cpi _ =>
    []
  | .staxB =>
    [s.pair .bc]
  | .staxD =>
    [s.pair .de]
  | .inrM | .dcrM | .mviM _ | .movMB | .movMC | .movMD | .movME | .movMH | .movML | .movMA =>
    [s.hl]
  | .cnz _ =>
    if s.flags.cond .nz then stackBytes s else []
  | .pushB | .rst0 | .call _ | .rst1 | .pushD | .rst2 | .altCallDD _ | .rst3 | .pushH | .rst4 | .altCallED _
  | .rst5 | .pushPsw | .rst6 | .altCallFD _ | .rst7 =>
    stackBytes s
  | .cz _ =>
    if s.flags.cond .z then stackBytes s else []
  | .cnc _ =>
    if s.flags.cond .nc then stackBytes s else []
  | .cc _ =>
    if s.flags.cond .c then stackBytes s else []
  | .xthl =>
    [s.sp, s.sp + 1]
  | .cpo _ =>
    if s.flags.cond .po then stackBytes s else []
  | .cpe _ =>
    if s.flags.cond .pe then stackBytes s else []
  | .cp _ =>
    if s.flags.cond .p then stackBytes s else []
  | .cm _ =>
    if s.flags.cond .m then stackBytes s else []

/-- What the opcode chart says of an instruction: its opcode byte, length, duration (action taken, not taken) and the
set of flags it affects (30_encoding.md R88). -/
def ChartRow (i : Instr) (op len : Nat) (cycles : Nat × Nat) (affected : FlagSet) : Prop :=
  i.opcode.toNat = op ∧ i.length = len ∧ duration i.opcode = cycles ∧ flagsAffected i.opcode = affected

/-- The list of instructions executed one after another, from a state; no fetch and no boundary between them. -/
def execAll : List Instr → State → Result
  | [], s => .next s
  | i :: rest, s =>
    match exec i s with
    | .next t => execAll rest t
    | .fault f => .fault f
    | .refused r => .refused r

/-! ### The spec's arithmetic, on numbers: a second reading of 44_alu_8bit.md R210 to R213 and R246, written without
the model's flag computations -/

/-- How many bits of a byte are 1. -/
def Spec.ones (v : Byte) : Nat := (List.range 8).countP (fun i => v.getLsbD i)

/-- The five flags of a result, with the carries given (44_alu_8bit.md R210). -/
def Spec.flags (res : Byte) (ac cy : Bool) : Flags :=
  { s := decide (128 ≤ res.toNat)
    z := decide (res.toNat = 0)
    a := ac
    p := decide (Spec.ones res % 2 = 0)
    c := cy }

/-- The sum of two bytes and a carry, modulo 256 (44_alu_8bit.md R211). -/
def Spec.sum (a b : Byte) (cin : Bool) : Byte := BitVec.ofNat 8 (a.toNat + b.toNat + cin.toNat)

/-- The flags of the sum: carries out of bit 7 and out of bit 3 (44_alu_8bit.md R211). -/
def Spec.sumFlags (a b : Byte) (cin : Bool) : Flags :=
  Spec.flags (Spec.sum a b cin) (decide (15 < a.toNat % 16 + b.toNat % 16 + cin.toNat))
    (decide (255 < a.toNat + b.toNat + cin.toNat))

/-- The difference of two bytes and a borrow, modulo 256 (44_alu_8bit.md R212). -/
def Spec.diff (a b : Byte) (bin : Bool) : Byte := BitVec.ofNat 8 (256 + a.toNat - b.toNat - bin.toNat)

/-- The flags of the difference: C is the borrow, A is 1 when there is no borrow from bit 4 (44_alu_8bit.md R212). -/
def Spec.diffFlags (a b : Byte) (bin : Bool) : Flags :=
  Spec.flags (Spec.diff a b bin) (decide (b.toNat % 16 + bin.toNat ≤ a.toNat % 16))
    (decide (a.toNat < b.toNat + bin.toNat))

/-- The auxiliary carry of `ANA` and `ANI` (44_alu_8bit.md R213). -/
def Spec.andAux (cfg : Config) (a b : Byte) : Bool :=
  decide (cfg.andAuxCarry = .orBit3) && (decide (a.toNat / 8 % 2 = 1) || decide (b.toNat / 8 % 2 = 1))

/-- Whether `DAA` corrects the low digit (44_alu_8bit.md R246). -/
def Spec.adjustsLow (f : Flags) (a : Byte) : Bool := f.a || decide (9 < a.toNat % 16)

/-- Whether `DAA` corrects the high digit (44_alu_8bit.md R246). -/
def Spec.adjustsHigh (f : Flags) (a : Byte) : Bool :=
  f.c || decide (9 < a.toNat / 16) || (decide (9 ≤ a.toNat / 16) && decide (9 < a.toNat % 16))

/-- What `DAA` adds (44_alu_8bit.md R246). -/
def Spec.correction (f : Flags) (a : Byte) : Nat :=
  (if Spec.adjustsLow f a then 6 else 0) + (if Spec.adjustsHigh f a then 96 else 0)

/-- The condition with code CCC, from the table of 41_jumps_calls.md R130: NZ, Z, NC, C, PO, PE, P, M. -/
def Spec.cond (f : Flags) (cc : Cond) : Bool :=
  [!f.z, f.z, !f.c, f.c, !f.p, f.p, !f.s, f.s].getD cc.code false

/-- Two decimal digits packed into a byte. -/
def Spec.bcd (n : Nat) : Byte := BitVec.ofNat 8 (16 * (n / 10) + n % 10)

end Sys2Proof.Machine
end

