-- ==== Sys2Proof/Certificates/Slice0/Obligations.lean ====
section
/-! DEFINITION. The statements for the provers. Each docstring says which rule of spec/ the statement formalises and,
where it is about instructions, names the constructors of `Instr` it covers. `ChartRow` gives the encoding, length,
duration and affected flags a rule states; the equation for `exec` gives its operation: the whole next state, so that
everything the equation does not write is unchanged. Arithmetic is written on numbers (`Spec.…` in Safety.lean), not
with the model's flag computations. -/

open Sys2Proof Sys2Proof.Machine

/-! ### Encoding -/

/-- 30_encoding.md R81, R87, R88, R90: every instruction is well formed, and decoding its bytes, whatever follows
them, gives it back with what follows. All constructors, every operand value. -/
def Obligations.DecodeEncodeRoundTrip : Prop :=
  ∀ (i : Instr) (rest : List Byte), i.WellFormed = true ∧ decode (encode i ++ rest) = .ok (i, rest)

/-- 30_encoding.md R81, R89: what the decoder reads from a list of bytes is encoded by exactly the bytes it took. -/
def Obligations.EncodeDecodeRoundTrip : Prop :=
  ∀ (bytes : List Byte) (i : Instr) (rest : List Byte), decode bytes = .ok (i, rest) → encode i ++ rest = bytes

/-- 30_encoding.md R89, R90, R92: every byte is an opcode, so the decoder of a list fails only where the list ends
before the instruction does, and it names which case it is (log 18: a list can be short, memory cannot). -/
def Obligations.DecodeFailsOnlyOnShortInput : Prop :=
  decode [] = .error .noOpcode ∧
  ∀ (op : Byte) (tail : List Byte),
    (opLength op ≤ tail.length + 1 → ∃ i rest, decode (op :: tail) = .ok (i, rest) ∧ i.opcode = op) ∧
    (tail.length + 1 < opLength op → decode (op :: tail) = .error (.missingOperand op))

/-- 30_encoding.md R80: the length of each opcode, and how many opcodes have each length. -/
def Obligations.OpcodeLengths : Prop :=
  (∀ op : Byte, opLength op = 2 ↔ op ∈ ([0x06, 0x0E, 0x16, 0x1E, 0x26, 0x2E, 0x36, 0x3E, 0xC6, 0xCE, 0xD6, 0xDE,
    0xE6, 0xEE, 0xF6, 0xFE, 0xD3, 0xDB] : List Byte)) ∧
  (∀ op : Byte, opLength op = 3 ↔ op ∈ ([0x01, 0x11, 0x21, 0x31, 0x22, 0x2A, 0x32, 0x3A, 0xC3, 0xCB, 0xC2, 0xCA,
    0xD2, 0xDA, 0xE2, 0xEA, 0xF2, 0xFA, 0xCD, 0xDD, 0xED, 0xFD, 0xC4, 0xCC, 0xD4, 0xDC, 0xE4, 0xEC, 0xF4,
    0xFC] : List Byte)) ∧
  (∀ op : Byte, opLength op = 1 ∨ opLength op = 2 ∨ opLength op = 3) ∧
  (∀ i : Instr, i.length = opLength i.opcode) ∧
  (List.range 256).countP (fun n => opLength (BitVec.ofNat 8 n) == 1) = 208 ∧
  (List.range 256).countP (fun n => opLength (BitVec.ofNat 8 n) == 2) = 18 ∧
  (List.range 256).countP (fun n => opLength (BitVec.ofNat 8 n) == 3) = 30

/-- 30_encoding.md R83 to R86 with the codes of 10_state.md R22, R23 and 41_jumps_calls.md R130: the opcode of every
instruction by the fields of its quadrant. All constructors. -/
def Obligations.OpcodeFields : Prop :=
  [Reg.b, .c, .d, .e, .h, .l, .a].map Reg.code = [0, 1, 2, 3, 4, 5, 7] ∧
  [Pair16.bc, .de, .hl, .sp].map Pair16.code = [0, 1, 2, 3] ∧ [Pair.bc, .de, .hl].map Pair.code = [0, 1, 2] ∧
  [Cond.nz, .z, .nc, .c, .po, .pe, .p, .m].map Cond.code = [0, 1, 2, 3, 4, 5, 6, 7] ∧
  [AluOp.add, .adc, .sub, .sbb, .ana, .xra, .ora, .cmp].map AluOp.code = [0, 1, 2, 3, 4, 5, 6, 7] ∧
  (∀ (r : Reg) (d8 : Byte), (Instr.inrReg r).opcode.toNat = 0x04 + 8 * r.code ∧
    (Instr.dcrReg r).opcode.toNat = 0x05 + 8 * r.code ∧ (Instr.mviReg r d8).opcode.toNat = 0x06 + 8 * r.code ∧
    (Instr.movFromM r).opcode.toNat = 0x40 + 8 * r.code + 6 ∧ (Instr.movToM r).opcode.toNat = 0x40 + 8 * 6 + r.code) ∧
  (∀ d8 : Byte, Instr.inrM.opcode.toNat = 0x04 + 8 * 6 ∧ Instr.dcrM.opcode.toNat = 0x05 + 8 * 6 ∧
    (Instr.mviM d8).opcode.toNat = 0x06 + 8 * 6 ∧ Instr.hlt.opcode.toNat = 0x40 + 8 * 6 + 6) ∧
  (∀ dst src : Reg, (Instr.movReg dst src).opcode.toNat = 0x40 + 8 * dst.code + src.code) ∧
  (∀ (op : AluOp) (r : Reg) (d8 : Byte), (Instr.aluReg op r).opcode.toNat = 0x80 + 8 * op.code + r.code ∧
    (Instr.aluM op).opcode.toNat = 0x80 + 8 * op.code + 6 ∧ (Instr.aluImm op d8).opcode.toNat = 0xC6 + 8 * op.code) ∧
  (∀ (p : Pair16) (w : Word), (Instr.lxi p w).opcode.toNat = 0x01 + 16 * p.code ∧
    (Instr.inx p).opcode.toNat = 0x03 + 16 * p.code ∧ (Instr.dad p).opcode.toNat = 0x09 + 16 * p.code ∧
    (Instr.dcx p).opcode.toNat = 0x0B + 16 * p.code) ∧
  (∀ p : Pair, (Instr.popPair p).opcode.toNat = 0xC1 + 16 * p.code ∧
    (Instr.pushPair p).opcode.toNat = 0xC5 + 16 * p.code) ∧
  (∀ (cc : Cond) (w : Word), (Instr.retIf cc).opcode.toNat = 0xC0 + 8 * cc.code ∧
    (Instr.jumpIf cc w).opcode.toNat = 0xC2 + 8 * cc.code ∧ (Instr.callIf cc w).opcode.toNat = 0xC4 + 8 * cc.code) ∧
  (∀ n : Fin 8, (Instr.rst n).opcode.toNat = 0xC7 + 8 * n.val) ∧
  (∀ (d8 : Byte) (w : Word),
    [Instr.nop, .altNop08, .altNop10, .altNop18, .altNop20, .altNop28, .altNop30, .altNop38].map Instr.opcode =
      [0x00, 0x08, 0x10, 0x18, 0x20, 0x28, 0x30, 0x38] ∧
    [Instr.staxB, .staxD, .shld w, .sta w, .ldaxB, .ldaxD, .lhld w, .lda w].map Instr.opcode =
      [0x02, 0x12, 0x22, 0x32, 0x0A, 0x1A, 0x2A, 0x3A] ∧
    [Instr.rlc, .rrc, .ral, .rar, .daa, .cma, .stc, .cmc].map Instr.opcode =
      [0x07, 0x0F, 0x17, 0x1F, 0x27, 0x2F, 0x37, 0x3F] ∧
    [Instr.popPsw, .pushPsw, .ret, .altRetD9, .pchl, .sphl].map Instr.opcode =
      [0xF1, 0xF5, 0xC9, 0xD9, 0xE9, 0xF9] ∧
    [Instr.jmp w, .altJmpCB w, .outPort d8, .inPort d8, .xthl, .xchg, .di, .ei].map Instr.opcode =
      [0xC3, 0xCB, 0xD3, 0xDB, 0xE3, 0xEB, 0xF3, 0xFB] ∧
    [Instr.call w, .altCallDD w, .altCallED w, .altCallFD w].map Instr.opcode = [0xCD, 0xDD, 0xED, 0xFD])

/-- 20_memory.md R52, 30_encoding.md R88: words written out from the chart, one or more of each family, decode to the
instruction they stand for; the first two are the examples of R52. The last clause is no word of the chart, where
`LXI B` has three bytes: it is the model's choice that a table row which gives an instruction's opcode alone stands for
it with operand bytes of zeros (`tableBytes`, under `decodeTableWord`; log 15, log 23, DESIGN CHOICE). -/
def Obligations.SampleWordsDecode : Prop :=
  decode [0xC3, 0x34, 0x12] = .ok (.jmp 0x1234, []) ∧
  decode [0x21, 0xCD, 0xAB] = .ok (.lxiH 0xABCD, []) ∧
  decode [0x76, 0x00] = .ok (.hlt, [0x00]) ∧
  decode [0xDB, 0x10] = .ok (.inPort 0x10, []) ∧
  decode [0x41] = .ok (.movBC, []) ∧
  decode [0x36, 0xFF] = .ok (.mviM 0xFF, []) ∧
  decode [0x22, 0x10, 0x30] = .ok (.shld 0x3010, []) ∧
  decode [0xF1] = .ok (.popPsw, []) ∧
  decode [0xDE, 0x80] = .ok (.sbi 0x80, []) ∧
  decode [0x35] = .ok (.dcrM, []) ∧
  decode [0x39] = .ok (.dadSp, []) ∧
  decode [0xFD, 0x00, 0x10] = .ok (.altCallFD 0x1000, []) ∧
  decodeTableWord 24 0x1234C3 = some (.jmp 0x1234) ∧
  decodeTableWord 8 0x01 = some (.lxiB 0x0000)

/-! ### The step -/

/-- 60_exceptions.md R283 case 4, 20_memory.md R68, R55, 30_encoding.md R89: at a boundary where the instruction cycle
runs, with the instruction's bytes in RAM or ROM, the step is `exec` of the instruction that the bytes at `pc`,
`pc + 1`, `pc + 2` (modulo 2^16) decode to; beside it the step only uses up this boundary's entry of the platform's
script (log 4, the model's choice). -/
def Obligations.StepRunsDecodedInstruction : Prop :=
  ∀ (s : State) (i : Instr) (rest : List Byte),
    s.atBoundary.reset = false → s.acceptedRequest = none → s.halted = false →
    (∀ k : Nat, k < i.length → s.memClass (s.pc + BitVec.ofNat 16 k) = .ram ∨
      s.memClass (s.pc + BitVec.ofNat 16 k) = .rom) →
    decode [s.mem.read s.pc, s.mem.read (s.pc + 1), s.mem.read (s.pc + 2)] = .ok (i, rest) →
    step s = exec i s.pastBoundary

/-- 20_memory.md R68, R55, 30_encoding.md R92: a fetch reads the bytes of the instruction in ascending order, as many
as the opcode's length, and none beyond, from any class of address; the instruction it gives is the one whose
encoding they are. -/
def Obligations.FetchReadsInOrder : Prop :=
  ∀ s : State,
    let x1 := s.memRead s.pc
    let x2 := x1.2.memRead (s.pc + 1)
    let x3 := x2.2.memRead (s.pc + 2)
    (opLength x1.1 = 1 ∧ encode s.fetch.1 = [x1.1] ∧ s.fetch.2 = x1.2) ∨
    (opLength x1.1 = 2 ∧ encode s.fetch.1 = [x1.1, x2.1] ∧ s.fetch.2 = x2.2) ∨
    (opLength x1.1 = 3 ∧ encode s.fetch.1 = [x1.1, x2.1, x3.1] ∧ s.fetch.2 = x3.2)

/-- 70_reset_and_hazards.md R320: an asserted reset, at any boundary and whatever else is presented, writes `pc`,
`inte`, `halted` and `int_inhibit` and nothing else of the processor or memory. -/
def Obligations.ResetWritesFourFields : Prop :=
  ∀ s : State, s.atBoundary.reset = true →
    ∃ t, step s = .next t ∧ t.pc = 0 ∧ t.inte = false ∧ t.halted = false ∧ t.intInhibit = false ∧
      t.regs = s.regs ∧ t.flags = s.flags ∧ t.sp = s.sp ∧ t.mem = s.mem ∧ t.cfg = s.cfg ∧
      { t.plat with boundary := s.plat.boundary } = s.plat

/-- 60_exceptions.md R283 case 2, R284, R285, R291: a request at an enabled boundary, halted or not, is accepted:
`inte`, `halted` and `int_inhibit` become 0, the unadvanced `pc` is pushed, high byte at `sp - 1` and low byte at
`sp - 2`, `sp` is 2 less, `pc` is `8 * n` for a supplied `RST n` and the address supplied with a `CALL`; registers
and flags are kept. -/
def Obligations.InterruptAcceptance : Prop :=
  ∀ (s : State) (q : Supply), s.atBoundary.reset = false → s.inte = true → s.intInhibit = false →
    s.atBoundary.request = some q →
    ∀ target : Word,
      ((∃ n : Fin 8, q.op = BitVec.ofNat 8 (0xC7 + 8 * n.val) ∧ target = BitVec.ofNat 16 (8 * n.val)) ∨
        (q.op = 0xCD ∧ target = wordOf q.b3 q.b2)) →
      ∃ t, step s = .next t ∧ t.pc = target ∧ t.sp = s.sp - 2 ∧
        t.inte = false ∧ t.halted = false ∧ t.intInhibit = false ∧
        t.regs = s.regs ∧ t.flags = s.flags ∧ t.cfg = s.cfg ∧
        t.mem = ((s.memWrite (s.sp - 1) (hiByte s.pc)).memWrite (s.sp - 2) (loByte s.pc)).mem ∧
        t.plat.trace = ((s.memWrite (s.sp - 1) (hiByte s.pc)).memWrite (s.sp - 2) (loByte s.pc)).plat.trace

/-- 60_exceptions.md R285 case 3: with any other supplied opcode, the alternative calls among them, the step is
refused by name. -/
def Obligations.OtherSuppliedRefused : Prop :=
  ∀ (s : State) (q : Supply), s.atBoundary.reset = false → s.inte = true → s.intInhibit = false →
    s.atBoundary.request = some q →
    q.op ∉ ([0xC7, 0xCF, 0xD7, 0xDF, 0xE7, 0xEF, 0xF7, 0xFF, 0xCD] : List Byte) →
    step s = .refused (.suppliedNotAdmitted q.op)

/-- 60_exceptions.md R282, R286, 10_state.md R31, R33: while `inte` is 0 or `int_inhibit` is 1 a request has no effect
on the step: it is the step with no request presented. -/
def Obligations.MaskedRequestIgnored : Prop :=
  ∀ (s : State) (b : Boundary) (rest : List Boundary), s.plat.boundary = b :: rest →
    (s.inte = false ∨ s.intInhibit = true) →
    step s = step { s with plat := { s.plat with boundary := { b with request := none } :: rest } }

/-- 60_exceptions.md R283 case 3, 10_state.md R32: with no reset and no accepted request a halted processor's step
changes nothing; only the platform's script moves on (log 4, log 9, the model's choices). -/
def Obligations.HaltedStepChangesNothing : Prop :=
  ∀ s : State, s.atBoundary.reset = false → s.acceptedRequest = none → s.halted = true →
    ∃ t, step s = .next t ∧ { t with plat := s.plat } = s ∧ t.plat.trace = s.plat.trace ∧
      t.plat.answers = s.plat.answers ∧ t.plat.draws = s.plat.draws

/-- 70_reset_and_hazards.md R325: a final state (`halted == 1` and `inte == 0`) is a fixed point of any number of
steps, whatever requests are presented, as long as no reset is; only the platform's script moves on (log 4). -/
def Obligations.FinalStateIsFixed : Prop :=
  ∀ (n : Nat) (s : State), s.halted = true → s.inte = false → (∀ b ∈ s.plat.boundary, b.reset = false) →
    ∃ t : State, Sys2Proof.core.run n s = .next t ∧ { t with plat := s.plat } = s ∧ t.plat.trace = s.plat.trace

/-- 10_state.md R41, 70_reset_and_hazards.md R320: the state after reset has `pc` 0x0000, `inte`, `halted` and
`int_inhibit` 0, no byte of memory listed (log 2, log 22: the model's form of `InitMem`), and meets the invariant of
60_exceptions.md R283. The registers, the flags and `sp` are not claimed: the spec leaves them open (log 1). -/
def Obligations.ResetState : Prop :=
  State.reset.pc = 0 ∧ State.reset.inte = false ∧ State.reset.halted = false ∧ State.reset.intInhibit = false ∧
  (∀ a : Word, State.reset.mem.read a = Config.initByte a) ∧ State.reset.Inv

/-- 60_exceptions.md R283, T9 of 95_test_vectors.md: every step keeps the invariant, from every state that meets it:
memory in canonical form (log 2), `halted == 1` implies `int_inhibit == 0`, `int_inhibit == 1` implies `inte == 1`. -/
def Obligations.StepKeepsInvariant : Prop :=
  ∀ s t : State, s.Inv → step s = .next t → t.Inv

/-- 60_exceptions.md R280, 70_reset_and_hazards.md R325: no step faults, and a step is refused only for an alternative
opcode under `AltOpcodePolicy = refuse` or for an accepted request with an opcode that is not admitted. -/
def Obligations.StepRefusalsAreTheSpecs : Prop :=
  ∀ s : State, (∀ f, step s ≠ .fault f) ∧
    ∀ r, step s = .refused r →
      (s.cfg.altOpcodePolicy = .refuse ∧ ∃ op ∈ altOpcodes, r = .altOpcode op) ∨
      (∃ q, s.acceptedRequest = some q ∧ q.op ∉ suppliable ∧ r = .suppliedNotAdmitted q.op)

/-- 60_exceptions.md R280, 30_encoding.md R90: every instruction, at every state and with every operand, completes;
the one condition is the policy on the alternative opcodes (30_encoding.md R91). All constructors. -/
def Obligations.EveryInstructionCompletes : Prop :=
  ∀ (i : Instr) (s : State), (i.opcode ∈ altOpcodes → s.cfg.altOpcodePolicy = .execute) →
    ∃ t, exec i s = .next t

/-- 30_encoding.md R91: each of the 12 alternative opcodes has the length, the duration and the empty flag set of the
instruction it is an alternative of; under `execute`, the default, it executes exactly as that instruction; under `refuse` it is
refused by name. Constructors altNop08, altNop10, altNop18, altNop20, altNop28, altNop30, altNop38, altJmpCB,
altRetD9, altCallDD, altCallED, altCallFD. -/
def Obligations.AlternativeOpcodes : Prop :=
  Config.default.altOpcodePolicy = .execute ∧
  ∀ (a16 : Word) (s : State) (ip : Instr × Instr),
    ip ∈ [(Instr.altNop08, Instr.nop), (.altNop10, .nop), (.altNop18, .nop), (.altNop20, .nop), (.altNop28, .nop),
      (.altNop30, .nop), (.altNop38, .nop), (.altJmpCB a16, .jmp a16), (.altRetD9, .ret),
      (.altCallDD a16, .call a16), (.altCallED a16, .call a16), (.altCallFD a16, .call a16)] →
    ip.1.length = ip.2.length ∧ duration ip.1.opcode = duration ip.2.opcode ∧
    flagsAffected ip.1.opcode = .none ∧ flagsAffected ip.2.opcode = .none ∧
    (s.cfg.altOpcodePolicy = .execute → exec ip.1 s = exec ip.2 s ∧ ∃ t, exec ip.1 s = .next t) ∧
    (s.cfg.altOpcodePolicy = .refuse → exec ip.1 s = .refused (.altOpcode ip.1.opcode))

/-! ### What no instruction, and no step, changes -/

/-- 10_state.md R29: which flags each opcode affects (the chart's column, opcode by opcode), and that a flag an
instruction does not affect keeps its value; reset and the acceptance of an interrupt affect none. All
constructors. -/
def Obligations.UnaffectedFlagsKept : Prop :=
  (∀ op : Byte, flagsAffected op =
    if (0x80 ≤ op.toNat ∧ op.toNat < 0xC0) ∨
        op ∈ ([0xC6, 0xCE, 0xD6, 0xDE, 0xE6, 0xEE, 0xF6, 0xFE, 0x27, 0xF1] : List Byte) then .all
    else if op ∈ ([0x04, 0x0C, 0x14, 0x1C, 0x24, 0x2C, 0x34, 0x3C, 0x05, 0x0D, 0x15, 0x1D, 0x25, 0x2D, 0x35,
        0x3D] : List Byte) then .szap
    else if op ∈ ([0x07, 0x0F, 0x17, 0x1F, 0x37, 0x3F, 0x09, 0x19, 0x29, 0x39] : List Byte) then .carry
    else .none) ∧
  (∀ (i : Instr) (s t : State), exec i s = .next t →
    ((flagsAffected i.opcode).s = false → t.flags.s = s.flags.s) ∧
    ((flagsAffected i.opcode).z = false → t.flags.z = s.flags.z) ∧
    ((flagsAffected i.opcode).a = false → t.flags.a = s.flags.a) ∧
    ((flagsAffected i.opcode).p = false → t.flags.p = s.flags.p) ∧
    ((flagsAffected i.opcode).c = false → t.flags.c = s.flags.c)) ∧
  (∀ s t : State, s.atBoundary.reset = true ∨ s.acceptedRequest ≠ none → step s = .next t → t.flags = s.flags)

/-- 10_state.md R26: an instruction whose rule does not write `pc` ends with `pc <- next`, modulo 2^16. -/
def Obligations.PcAdvancesByLength : Prop :=
  ∀ (i : Instr) (s t : State), exec i s = .next t → writesPc i = false →
    t.pc = s.pc + BitVec.ofNat 16 i.length

/-- 10_state.md R39, 20_memory.md R60, 93_implementation_defined.md U5: the parameters are fixed for a run, and the
record of port and device events only grows at its end; each step uses up one entry of the platform's script (log 4,
log 14, the model's choices). -/
def Obligations.ParametersFixedTraceGrows : Prop :=
  ∀ s t : State, step s = .next t →
    t.cfg = s.cfg ∧ t.plat.boundary = s.plat.boundary.tail ∧ ∃ events, t.plat.trace = s.plat.trace ++ events

/-- 10_state.md R40: an instruction writes no register but those R40 lists it as a writer of (`writtenRegs`), and `sp`
only if R40 lists it as a writer of `sp` (`writesSp`). All constructors. -/
def Obligations.RegisterFrame : Prop :=
  ∀ (i : Instr) (s t : State), exec i s = .next t →
    (∀ r : Reg, r ∉ writtenRegs i → t.regs.get r = s.regs.get r) ∧
    (writesSp i = false → t.sp = s.sp)

/-- 10_state.md R40, 20_memory.md R56: every byte of memory outside the addresses the instruction stores to
(`storedBytes`: `hl`, `bc`, `de`, `a16`, `a16 + 1`, the stack bytes, computed from the state it runs in, by the same
functions the meanings use) reads as before; of an instruction that stores nothing every byte does. All
constructors. -/
def Obligations.MemoryFrame : Prop :=
  ∀ (i : Instr) (s t : State), exec i s = .next t →
    ∀ a : Word, a ∉ storedBytes i s → t.mem.read a = s.mem.read a

/-- 10_state.md R31, R32, R33: of the instructions only `EI` and `DI` write `inte`, only `HLT` sets `halted` and none
clears it, and `int_inhibit` is 1 after `EI` and 0 after any other. All constructors. -/
def Obligations.HiddenBitWriters : Prop :=
  ∀ (i : Instr) (s t : State), exec i s = .next t →
    (i = .ei → t.inte = true) ∧ (i = .di → t.inte = false) ∧ (i ≠ .ei → i ≠ .di → t.inte = s.inte) ∧
    (i = .hlt → t.halted = true) ∧ (i ≠ .hlt → t.halted = s.halted) ∧
    (i = .ei → t.intInhibit = true) ∧ (i ≠ .ei → t.intInhibit = false)

/-- 20_memory.md R66: no step changes what is held behind an address that is ROM, a device or absent. -/
def Obligations.OnlyRamChanges : Prop :=
  ∀ (s t : State) (a : Word), step s = .next t → s.memClass a ≠ .ram → t.mem.read a = s.mem.read a

/-! ### Memory, the stack, the flag byte, conditions -/

/-- 20_memory.md R51, R66: what a byte read and a byte write do at an address of each class. A read of a device or of
an absent address gives a drawn byte (log 3, the model's form of the platform's answer). That a device read is also
appended to the trace, while a read of an absent address leaves no event, is the model's choice (log 14, DESIGN
CHOICE): R66 calls both reads draws and says of a device's "like ports", 93_implementation_defined.md U6 treats the two
alike, and U5 speaks of a recorded draw for `IN` alone. That a device write is an event is R66; that the trace holds it
with its address and value is log 14 too. -/
def Obligations.MemoryClasses : Prop :=
  ∀ (s : State) (a : Word) (v : Byte),
    (s.memClass a = .ram → s.memRead a = (s.mem.read a, s) ∧
      (s.memWrite a v).mem.read a = v ∧ (∀ b : Word, b ≠ a → (s.memWrite a v).mem.read b = s.mem.read b) ∧
      { s.memWrite a v with mem := s.mem } = s) ∧
    (s.memClass a = .rom → s.memRead a = (s.mem.read a, s) ∧ s.memWrite a v = s) ∧
    (s.memClass a = .device → (s.memRead a).1 = s.draw.1 ∧
      (s.memRead a).2.plat.trace = s.plat.trace ++ [.deviceRead a s.draw.1] ∧
      { (s.memRead a).2 with plat := s.plat } = s ∧
      s.memWrite a v = { s with plat := { s.plat with trace := s.plat.trace ++ [.deviceWrite a v] } }) ∧
    (s.memClass a = .absent → s.memRead a = s.draw ∧ { (s.memRead a).2 with plat := s.plat } = s ∧
      s.memWrite a v = s)

/-- 20_memory.md R50, 10_state.md R36: two memories in canonical form that list the same byte, or none, at each of the
65,536 addresses are the same data (log 2, the model's form of memory). -/
def Obligations.CanonicalMemoriesEqual : Prop :=
  ∀ m n : Memory, m.wf = true → n.wf = true → (∀ a : Word, m.cellAt a.toNat = n.cellAt a.toNat) → m = n

/-- 20_memory.md R53: over RAM, a pop after a push gives the value pushed, and leaves `sp` as it was before the push;
the push puts the high byte at `sp - 1` and the low byte at `sp - 2`. -/
def Obligations.PushThenPop : Prop :=
  ∀ (s : State) (v : Word), s.memClass (s.sp - 1) = .ram → s.memClass (s.sp - 2) = .ram →
    (s.push v).mem.read (s.sp - 1) = hiByte v ∧ (s.push v).mem.read (s.sp - 2) = loByte v ∧
    (s.push v).sp = s.sp - 2 ∧ (s.push v).pop = (v, { s.push v with sp := s.sp })

/-- 41_jumps_calls.md R141, R151, T8 of 95_test_vectors.md: a `CALL` and then a `RET`, over a RAM stack, come back to
`pc + 3` with `sp` as before and the return address in the two bytes below it. Constructors call, ret. -/
def Obligations.CallThenReturn : Prop :=
  ∀ (s : State) (a16 : Word), s.memClass (s.sp - 1) = .ram → s.memClass (s.sp - 2) = .ram →
    ∃ t u, exec (.call a16) s = .next t ∧ t.pc = a16 ∧ exec .ret t = .next u ∧
      u.pc = s.pc + 3 ∧ u.sp = s.sp ∧ u.regs = s.regs ∧ u.flags = s.flags ∧
      u.mem.read (s.sp - 1) = hiByte (s.pc + 3) ∧ u.mem.read (s.sp - 2) = loByte (s.pc + 3) ∧
      ∀ a : Word, a ≠ s.sp - 1 → a ≠ s.sp - 2 → u.mem.read a = s.mem.read a

/-- 60_exceptions.md R284, R287, R290: a request accepted with `RST n` over a RAM stack, then `RET` as the handler,
comes back to the interrupted `pc`, not halted, with `sp`, the registers and the flags as before, and with interrupts
still disabled: `RET` does not set `inte`. -/
def Obligations.InterruptThenReturn : Prop :=
  ∀ (s : State) (q : Supply) (n : Fin 8), s.atBoundary.reset = false → s.inte = true → s.intInhibit = false →
    s.atBoundary.request = some q → q.op = BitVec.ofNat 8 (0xC7 + 8 * n.val) →
    s.memClass (s.sp - 1) = .ram → s.memClass (s.sp - 2) = .ram →
    ∃ t u, step s = .next t ∧ t.pc.toNat = 8 * n.val ∧ exec .ret t = .next u ∧
      u.pc = s.pc ∧ u.sp = s.sp ∧ u.regs = s.regs ∧ u.flags = s.flags ∧ u.halted = false ∧ u.inte = false

/-- 43_load_store_16bit.md R194, R196, T4 of 95_test_vectors.md: over a RAM stack, `PUSH PSW`, then any change of
registers and flags, then `POP PSW` restores A and all five flags and `sp`; the byte pushed for F has bit 1 set and
bits 3 and 5 clear. Constructors pushPsw, popPsw. -/
def Obligations.PushPswPopPsw : Prop :=
  ∀ (s : State) (regs : Regs) (flags : Flags), s.memClass (s.sp - 1) = .ram → s.memClass (s.sp - 2) = .ram →
    ∃ t u, exec .pushPsw s = .next t ∧ exec .popPsw { t with regs := regs, flags := flags } = .next u ∧
      u.regs = { regs with a := s.regs.a } ∧ u.flags = s.flags ∧ u.sp = s.sp ∧
      (t.mem.read (s.sp - 2)).getLsbD 1 = true ∧ (t.mem.read (s.sp - 2)).getLsbD 3 = false ∧
      (t.mem.read (s.sp - 2)).getLsbD 5 = false

/-- 20_memory.md R63: the next fetch sees a store at once: after `MOV M,A` to the RAM byte behind it the next
instruction fetched has the stored byte as its opcode. Constructor movMA. -/
def Obligations.StoreSeenByNextFetch : Prop :=
  ∀ s : State, s.hl = s.pc + 1 → s.memClass (s.pc + 1) = .ram →
    ∃ t, exec .movMA s = .next t ∧ t.pc = s.pc + 1 ∧ t.fetch.1.opcode = s.regs.a

/-- 40_misc_control.md R114, 10_state.md R33, 70_reset_and_hazards.md R322: the step that runs an `EI` enables
interrupts but no request is accepted at the boundary after it; the next instruction, unless it is an `EI` too, opens
the boundary behind it. Constructor ei. -/
def Obligations.EiDelay : Prop :=
  ∀ s : State, s.atBoundary.reset = false → s.acceptedRequest = none → s.halted = false →
    s.pastBoundary.fetch.1 = .ei →
    ∃ t, step s = .next t ∧ t.inte = true ∧ t.acceptedRequest = none ∧
      (t.atBoundary.reset = false → t.halted = false ∧ step t = exec t.pastBoundary.fetch.1 t.pastBoundary.fetch.2 ∧
        ∀ u, step t = .next u →
          (t.pastBoundary.fetch.1 ≠ .ei → u.intInhibit = false ∧
            (t.pastBoundary.fetch.1 ≠ .di → u.acceptedRequest = u.atBoundary.request)) ∧
          (t.pastBoundary.fetch.1 = .ei → u.acceptedRequest = none))

/-- T5 of 95_test_vectors.md (43_load_store_16bit.md R197, R198, 44_alu_8bit.md R242 to R245, R247, R249): two `XCHG`,
two `CMA`, two `CMC`, eight `RLC` or `RRC` (for A), nine `RAL` or `RAR` restore what they changed, and two `XTHL`
over a RAM stack. Constructors xchg, cma, cmc, rlc, rrc, ral, rar, xthl. -/
def Obligations.Involutions : Prop :=
  ∀ s : State,
    execAll [.xchg, .xchg] s = .next { s with pc := s.pc + 2, intInhibit := false } ∧
    execAll [.cma, .cma] s = .next { s with pc := s.pc + 2, intInhibit := false } ∧
    execAll [.cmc, .cmc] s = .next { s with pc := s.pc + 2, intInhibit := false } ∧
    (∃ t, execAll (List.replicate 8 .rlc) s = .next t ∧ t.regs = s.regs ∧ t.flags.c = s.regs.a.getLsbD 0) ∧
    (∃ t, execAll (List.replicate 8 .rrc) s = .next t ∧ t.regs = s.regs ∧ t.flags.c = s.regs.a.getLsbD 7) ∧
    (∃ t, execAll ([.rlc, .rlc, .rlc, .rlc, .rrc, .rrc, .rrc, .rrc]) s = .next t ∧ t.regs = s.regs) ∧
    execAll (List.replicate 9 .ral) s = .next { s with pc := s.pc + 9, intInhibit := false } ∧
    execAll (List.replicate 9 .rar) s = .next { s with pc := s.pc + 9, intInhibit := false } ∧
    (s.memClass s.sp = .ram → s.memClass (s.sp + 1) = .ram →
      ∃ t, execAll [.xthl, .xthl] s = .next t ∧ t.regs = s.regs ∧ t.sp = s.sp ∧ t.flags = s.flags ∧
        ∀ a : Word, t.mem.read a = s.mem.read a)

/-- 10_state.md R27: F as a byte is `S Z 0 A 0 P 1 C`, bit 7 first, and a byte loaded into F leaves its bits 5, 3 and
1 behind; all five flags 0 read as 0x02, all five 1 as 0xD7 (E2 of 95_test_vectors.md). -/
def Obligations.FlagByteLayout : Prop :=
  (∀ f : Flags, f.toByte.toNat = 128 * f.s.toNat + 64 * f.z.toNat + 16 * f.a.toNat + 4 * f.p.toNat + 2 + f.c.toNat) ∧
  (∀ v : Byte, (Flags.ofByte v).s = v.getLsbD 7 ∧ (Flags.ofByte v).z = v.getLsbD 6 ∧
    (Flags.ofByte v).a = v.getLsbD 4 ∧ (Flags.ofByte v).p = v.getLsbD 2 ∧ (Flags.ofByte v).c = v.getLsbD 0) ∧
  (∀ f : Flags, Flags.ofByte f.toByte = f)

/-- 41_jumps_calls.md R130: bits 5:4 of the opcode select the flag a condition tests, Z, C, P or S, and bit 3 is the
value the flag must have. -/
def Obligations.ConditionsTestOneFlag : Prop :=
  ∀ (f : Flags) (cc : Cond),
    f.cond cc = ((match cc.code / 2 with | 0 => f.z | 1 => f.c | 2 => f.p | _ => f.s) == (cc.code % 2 == 1))

/-- 70_reset_and_hazards.md R323: how many opcodes have each duration, in the source's cycles (taken, not taken). -/
def Obligations.DurationCounts : Prop :=
  [(4, 4), (5, 5), (7, 7), (10, 10), (11, 11), (13, 13), (16, 16), (17, 17), (18, 18), (11, 5), (17, 11)].map
      (fun d => (List.range 256).countP (fun n => duration (BitVec.ofNat 8 n) == d)) =
    [74, 74, 42, 29, 12, 2, 2, 4, 1, 8, 8]

/-! ### Misc/control (40_misc_control.md) -/

/-- 40_misc_control.md R110, R111: `pc <- next` and nothing else, for `NOP` always and for the seven `*NOP` under
`AltOpcodePolicy = execute`. Constructors nop, altNop08, altNop10, altNop18, altNop20, altNop28, altNop30,
altNop38. -/
def Obligations.NoOperations : Prop :=
  ∀ s : State,
    (ChartRow .nop 0x00 1 (4, 4) .none ∧ exec .nop s = .next { s with pc := s.pc + 1, intInhibit := false }) ∧
    ∀ io ∈ [(Instr.altNop08, 0x08), (.altNop10, 0x10), (.altNop18, 0x18), (.altNop20, 0x20), (.altNop28, 0x28),
        (.altNop30, 0x30), (.altNop38, 0x38)],
      ChartRow io.1 io.2 1 (4, 4) .none ∧
      (s.cfg.altOpcodePolicy = .execute →
        exec io.1 s = .next { s with pc := s.pc + 1, intInhibit := false }) ∧
      (s.cfg.altOpcodePolicy = .refuse → exec io.1 s = .refused (.altOpcode (BitVec.ofNat 8 io.2)))

/-- 40_misc_control.md R112, R113, R114: `HLT` sets `halted`; `DI` clears `inte` and no request is accepted at the
boundary after it; `EI` sets `inte` and `int_inhibit`. Constructors hlt, di, ei. -/
def Obligations.HaltAndInterruptEnable : Prop :=
  ∀ s : State,
    (ChartRow .hlt 0x76 1 (7, 7) .none ∧
      exec .hlt s = .next { s with pc := s.pc + 1, intInhibit := false, halted := true }) ∧
    (ChartRow .di 0xF3 1 (4, 4) .none ∧
      ∃ t, exec .di s = .next t ∧ t = { s with pc := s.pc + 1, intInhibit := false, inte := false } ∧
        t.acceptedRequest = none) ∧
    (ChartRow .ei 0xFB 1 (4, 4) .none ∧
      ∃ t, exec .ei s = .next t ∧ t = { s with pc := s.pc + 1, intInhibit := true, inte := true } ∧
        t.acceptedRequest = none)

/-- 40_misc_control.md R115, R116, 20_memory.md R65: `IN` loads A with the byte the platform gives, recorded
(93_implementation_defined.md U5), and touches no flag; `OUT` hands A to the platform, recorded (92_eei_decisions.md
D4), and changes no processor state but `pc`. The byte is the next one of the platform's script, else a free draw (log
3, the model's form of `IOEnv`); one list of events is the form of the record (log 14). Constructors inPort,
outPort. -/
def Obligations.PortInstructions : Prop :=
  ∀ (p : Byte) (s : State),
    (ChartRow (.inPort p) 0xDB 2 (10, 10) .none ∧
      exec (.inPort p) s = .next { s with
        regs := { s.regs with a := s.draw.1 }
        pc := s.pc + 2
        intInhibit := false
        plat := { s.draw.2.plat with trace := s.plat.trace ++ [.portRead p s.draw.1] } }) ∧
    (ChartRow (.outPort p) 0xD3 2 (10, 10) .none ∧
      exec (.outPort p) s = .next { s with
        pc := s.pc + 2
        intInhibit := false
        plat := { s.plat with trace := s.plat.trace ++ [.portWrite p s.regs.a] } }) ∧
    (∀ v rest, s.plat.answers = v :: rest → s.draw.1 = v ∧ s.draw.2.plat = { s.plat with answers := rest }) ∧
    (s.plat.answers = [] → s.draw.1 = Config.freeByte s.plat.draws ∧
      s.draw.2.plat = { s.plat with draws := s.plat.draws + 1 })

/-! ### Jumps, calls, returns, restarts (41_jumps_calls.md) -/

/-- 41_jumps_calls.md R131 to R140, R161: `JMP`, `*JMP` (under `execute`), the eight conditional jumps, `PCHL`.
Constructors jmp, altJmpCB, jnz, jz, jnc, jc, jpo, jpe, jp, jm, pchl. -/
def Obligations.Jumps : Prop :=
  ∀ (a16 : Word) (s : State),
    (ChartRow (.jmp a16) 0xC3 3 (10, 10) .none ∧
      exec (.jmp a16) s = .next { s with pc := a16, intInhibit := false }) ∧
    (ChartRow (.altJmpCB a16) 0xCB 3 (10, 10) .none ∧
      (s.cfg.altOpcodePolicy = .execute →
        exec (.altJmpCB a16) s = .next { s with pc := a16, intInhibit := false })) ∧
    (∀ cc : Cond, ChartRow (Instr.jumpIf cc a16) (0xC2 + 8 * cc.code) 3 (10, 10) .none ∧
      exec (Instr.jumpIf cc a16) s = .next { s with
        pc := if Spec.cond s.flags cc then a16 else s.pc + 3
        intInhibit := false }) ∧
    (ChartRow .pchl 0xE9 1 (5, 5) .none ∧
      exec .pchl s = .next { s with pc := wordOf s.regs.h s.regs.l, intInhibit := false })

/-- 41_jumps_calls.md R141 to R150, R162: `CALL`, the three `*CALL` (under `execute`), the eight conditional calls,
`RST n`: the address of the next instruction is written high byte at `sp - 1`, low byte at `sp - 2`. A call that is
not taken writes no memory and keeps `sp`. Constructors call, altCallDD, altCallED, altCallFD, cnz, cz, cnc, cc, cpo,
cpe, cp, cm, rst0 to rst7. -/
def Obligations.Calls : Prop :=
  ∀ (a16 : Word) (s : State),
    let called (target ret : Word) : State :=
      { (s.memWrite (s.sp - 1) (hiByte ret)).memWrite (s.sp - 2) (loByte ret) with
        sp := s.sp - 2, pc := target, intInhibit := false }
    (ChartRow (.call a16) 0xCD 3 (17, 17) .none ∧ exec (.call a16) s = .next (called a16 (s.pc + 3))) ∧
    (∀ io ∈ [(Instr.altCallDD a16, 0xDD), (.altCallED a16, 0xED), (.altCallFD a16, 0xFD)],
      ChartRow io.1 io.2 3 (17, 17) .none ∧
      (s.cfg.altOpcodePolicy = .execute → exec io.1 s = .next (called a16 (s.pc + 3)))) ∧
    (∀ cc : Cond, ChartRow (Instr.callIf cc a16) (0xC4 + 8 * cc.code) 3 (17, 11) .none ∧
      exec (Instr.callIf cc a16) s = .next
        (if Spec.cond s.flags cc then called a16 (s.pc + 3) else { s with pc := s.pc + 3, intInhibit := false })) ∧
    (∀ n : Fin 8, ChartRow (Instr.rst n) (0xC7 + 8 * n.val) 1 (11, 11) .none ∧
      exec (Instr.rst n) s = .next (called (BitVec.ofNat 16 (8 * n.val)) (s.pc + 1)))

/-- 41_jumps_calls.md R151 to R160: `RET`, `*RET` (under `execute`), the eight conditional returns: the low byte of
`pc` from `sp`, then the high byte from `sp + 1`. A return that is not taken reads no memory and keeps `sp`.
Constructors ret, altRetD9, rnz, rz, rnc, rc, rpo, rpe, rp, rm. -/
def Obligations.Returns : Prop :=
  ∀ s : State,
    let lo := s.memRead s.sp
    let hi := lo.2.memRead (s.sp + 1)
    let returned : State := { hi.2 with sp := s.sp + 2, pc := wordOf hi.1 lo.1, intInhibit := false }
    (ChartRow .ret 0xC9 1 (10, 10) .none ∧ exec .ret s = .next returned) ∧
    (ChartRow .altRetD9 0xD9 1 (10, 10) .none ∧
      (s.cfg.altOpcodePolicy = .execute → exec .altRetD9 s = .next returned)) ∧
    (∀ cc : Cond, ChartRow (Instr.retIf cc) (0xC0 + 8 * cc.code) 1 (11, 5) .none ∧
      exec (Instr.retIf cc) s = .next
        (if Spec.cond s.flags cc then returned else { s with pc := s.pc + 1, intInhibit := false }))

/-! ### 8-bit loads, stores, moves (42_load_store_8bit.md) -/

/-- 42_load_store_8bit.md R170 to R174: `MOV` between registers, from M and to M, and `MVI`; M is the byte at the
address in H,L as it stands before the instruction. Constructors movBB to movAA (63: all that begin mov) and mviB,
mviC, mviD, mviE, mviH, mviL, mviA, mviM. -/
def Obligations.Moves : Prop :=
  ∀ (s : State) (d8 : Byte),
    let hl := wordOf s.regs.h s.regs.l
    (∀ dst src : Reg, ChartRow (Instr.movReg dst src) (0x40 + 8 * dst.code + src.code) 1 (5, 5) .none ∧
      exec (Instr.movReg dst src) s = .next { s with
        regs := s.regs.set dst (s.regs.get src), pc := s.pc + 1, intInhibit := false }) ∧
    (∀ dst : Reg, ChartRow (Instr.movFromM dst) (0x46 + 8 * dst.code) 1 (7, 7) .none ∧
      exec (Instr.movFromM dst) s = .next { (s.memRead hl).2 with
        regs := s.regs.set dst (s.memRead hl).1, pc := s.pc + 1, intInhibit := false }) ∧
    (∀ r : Reg, ChartRow (Instr.movToM r) (0x70 + r.code) 1 (7, 7) .none ∧
      exec (Instr.movToM r) s = .next { s.memWrite hl (s.regs.get r) with pc := s.pc + 1, intInhibit := false }) ∧
    (∀ dst : Reg, ChartRow (Instr.mviReg dst d8) (0x06 + 8 * dst.code) 2 (7, 7) .none ∧
      exec (Instr.mviReg dst d8) s = .next { s with
        regs := s.regs.set dst d8, pc := s.pc + 2, intInhibit := false }) ∧
    (ChartRow (.mviM d8) 0x36 2 (10, 10) .none ∧
      exec (.mviM d8) s = .next { s.memWrite hl d8 with pc := s.pc + 2, intInhibit := false })

/-- 42_load_store_8bit.md R175 to R178: `LDAX`, `STAX`, `LDA`, `STA`. Constructors ldaxB, ldaxD, staxB, staxD, lda,
sta. -/
def Obligations.AccumulatorLoadsStores : Prop :=
  ∀ (s : State) (a16 : Word),
    let bc := wordOf s.regs.b s.regs.c
    let de := wordOf s.regs.d s.regs.e
    (∀ ia ∈ [(Instr.ldaxB, bc, 0x0A), (.ldaxD, de, 0x1A)],
      ChartRow ia.1 ia.2.2 1 (7, 7) .none ∧
      exec ia.1 s = .next { (s.memRead ia.2.1).2 with
        regs := { s.regs with a := (s.memRead ia.2.1).1 }, pc := s.pc + 1, intInhibit := false }) ∧
    (∀ ia ∈ [(Instr.staxB, bc, 0x02), (.staxD, de, 0x12)],
      ChartRow ia.1 ia.2.2 1 (7, 7) .none ∧
      exec ia.1 s = .next { s.memWrite ia.2.1 s.regs.a with pc := s.pc + 1, intInhibit := false }) ∧
    (ChartRow (.lda a16) 0x3A 3 (13, 13) .none ∧
      exec (.lda a16) s = .next { (s.memRead a16).2 with
        regs := { s.regs with a := (s.memRead a16).1 }, pc := s.pc + 3, intInhibit := false }) ∧
    (ChartRow (.sta a16) 0x32 3 (13, 13) .none ∧
      exec (.sta a16) s = .next { s.memWrite a16 s.regs.a with pc := s.pc + 3, intInhibit := false })

/-! ### 16-bit loads, stores, moves, the stack (43_load_store_16bit.md) -/

/-- 43_load_store_16bit.md R190, R191, R192: `LXI` (the low byte of the operand to the low register), `LHLD` (L from
`a16`, then H from `a16 + 1`), `SHLD` (L to `a16`, then H to `a16 + 1`). Constructors lxiB, lxiD, lxiH, lxiSp, lhld,
shld. -/
def Obligations.PairLoadsStores : Prop :=
  ∀ (s : State) (w : Word),
    (ChartRow (.lxiB w) 0x01 3 (10, 10) .none ∧ exec (.lxiB w) s = .next { s with
      regs := { s.regs with b := hiByte w, c := loByte w }, pc := s.pc + 3, intInhibit := false }) ∧
    (ChartRow (.lxiD w) 0x11 3 (10, 10) .none ∧ exec (.lxiD w) s = .next { s with
      regs := { s.regs with d := hiByte w, e := loByte w }, pc := s.pc + 3, intInhibit := false }) ∧
    (ChartRow (.lxiH w) 0x21 3 (10, 10) .none ∧ exec (.lxiH w) s = .next { s with
      regs := { s.regs with h := hiByte w, l := loByte w }, pc := s.pc + 3, intInhibit := false }) ∧
    (ChartRow (.lxiSp w) 0x31 3 (10, 10) .none ∧ exec (.lxiSp w) s = .next { s with
      sp := w, pc := s.pc + 3, intInhibit := false }) ∧
    (let lo := s.memRead w
     let hi := lo.2.memRead (w + 1)
     ChartRow (.lhld w) 0x2A 3 (16, 16) .none ∧ exec (.lhld w) s = .next { hi.2 with
      regs := { s.regs with h := hi.1, l := lo.1 }, pc := s.pc + 3, intInhibit := false }) ∧
    (ChartRow (.shld w) 0x22 3 (16, 16) .none ∧ exec (.shld w) s = .next
      { (s.memWrite w s.regs.l).memWrite (w + 1) s.regs.h with pc := s.pc + 3, intInhibit := false })

/-- 43_load_store_16bit.md R193, R194: the high register at `sp - 1`, then the low register at `sp - 2`; `PUSH PSW`
pushes A above the byte F. Constructors pushB, pushD, pushH, pushPsw. -/
def Obligations.Pushes : Prop :=
  ∀ s : State,
    let pushed (hi lo : Byte) : State :=
      { (s.memWrite (s.sp - 1) hi).memWrite (s.sp - 2) lo with
        sp := s.sp - 2, pc := s.pc + 1, intInhibit := false }
    (ChartRow .pushB 0xC5 1 (11, 11) .none ∧ exec .pushB s = .next (pushed s.regs.b s.regs.c)) ∧
    (ChartRow .pushD 0xD5 1 (11, 11) .none ∧ exec .pushD s = .next (pushed s.regs.d s.regs.e)) ∧
    (ChartRow .pushH 0xE5 1 (11, 11) .none ∧ exec .pushH s = .next (pushed s.regs.h s.regs.l)) ∧
    (ChartRow .pushPsw 0xF5 1 (11, 11) .none ∧ exec .pushPsw s = .next (pushed s.regs.a
      (BitVec.ofNat 8 (128 * s.flags.s.toNat + 64 * s.flags.z.toNat + 16 * s.flags.a.toNat +
        4 * s.flags.p.toNat + 2 + s.flags.c.toNat))))

/-- 43_load_store_16bit.md R195, R196: the low register from `sp`, then the high register from `sp + 1`; `POP PSW`
loads the five flags from bits 7, 6, 4, 2, 0 of the byte at `sp` and ignores the others. Constructors popB, popD,
popH, popPsw. -/
def Obligations.Pops : Prop :=
  ∀ s : State,
    let lo := s.memRead s.sp
    let hi := lo.2.memRead (s.sp + 1)
    (ChartRow .popB 0xC1 1 (10, 10) .none ∧ exec .popB s = .next { hi.2 with
      regs := { s.regs with b := hi.1, c := lo.1 }, sp := s.sp + 2, pc := s.pc + 1, intInhibit := false }) ∧
    (ChartRow .popD 0xD1 1 (10, 10) .none ∧ exec .popD s = .next { hi.2 with
      regs := { s.regs with d := hi.1, e := lo.1 }, sp := s.sp + 2, pc := s.pc + 1, intInhibit := false }) ∧
    (ChartRow .popH 0xE1 1 (10, 10) .none ∧ exec .popH s = .next { hi.2 with
      regs := { s.regs with h := hi.1, l := lo.1 }, sp := s.sp + 2, pc := s.pc + 1, intInhibit := false }) ∧
    (ChartRow .popPsw 0xF1 1 (10, 10) .all ∧ exec .popPsw s = .next { hi.2 with
      regs := { s.regs with a := hi.1 }
      flags :=
        { s := decide (128 ≤ lo.1.toNat), z := decide (lo.1.toNat / 64 % 2 = 1)
          a := decide (lo.1.toNat / 16 % 2 = 1), p := decide (lo.1.toNat / 4 % 2 = 1)
          c := decide (lo.1.toNat % 2 = 1) }
      sp := s.sp + 2, pc := s.pc + 1, intInhibit := false })

/-- 43_load_store_16bit.md R197, R198, R199: `XCHG`; `XTHL` (read `sp`, read `sp + 1`, write H at `sp + 1`, write L at
`sp`); `SPHL`. Constructors xchg, xthl, sphl. -/
def Obligations.Exchanges : Prop :=
  ∀ s : State,
    (ChartRow .xchg 0xEB 1 (5, 5) .none ∧ exec .xchg s = .next { s with
      regs := { s.regs with d := s.regs.h, e := s.regs.l, h := s.regs.d, l := s.regs.e }
      pc := s.pc + 1, intInhibit := false }) ∧
    (let lo := s.memRead s.sp
     let hi := lo.2.memRead (s.sp + 1)
     ChartRow .xthl 0xE3 1 (18, 18) .none ∧ exec .xthl s = .next
      { (hi.2.memWrite (s.sp + 1) s.regs.h).memWrite s.sp s.regs.l with
        regs := { s.regs with h := hi.1, l := lo.1 }, pc := s.pc + 1, intInhibit := false }) ∧
    (ChartRow .sphl 0xF9 1 (5, 5) .none ∧ exec .sphl s = .next { s with
      sp := wordOf s.regs.h s.regs.l, pc := s.pc + 1, intInhibit := false })

/-! ### 8-bit arithmetic and logic (44_alu_8bit.md) -/

/-- 44_alu_8bit.md R210, R211, R214 to R217, R230, R231: `ADD` and `ADC` with a register, M and an immediate. M is
read once, before A is written. Constructors addB to addA, addM, adi, adcB to adcA, adcM, aci. -/
def Obligations.Additions : Prop :=
  ∀ (s : State) (d8 : Byte) (op : AluOp) (cin : Bool), (op, cin) ∈ [(AluOp.add, false), (.adc, s.flags.c)] →
    let m := s.memRead (wordOf s.regs.h s.regs.l)
    (∀ r : Reg, ChartRow (Instr.aluReg op r) (0x80 + 8 * op.code + r.code) 1 (4, 4) .all ∧
      exec (Instr.aluReg op r) s = .next { s with
        regs := { s.regs with a := Spec.sum s.regs.a (s.regs.get r) cin }
        flags := Spec.sumFlags s.regs.a (s.regs.get r) cin
        pc := s.pc + 1, intInhibit := false }) ∧
    (ChartRow (Instr.aluM op) (0x86 + 8 * op.code) 1 (7, 7) .all ∧
      exec (Instr.aluM op) s = .next { m.2 with
        regs := { s.regs with a := Spec.sum s.regs.a m.1 cin }
        flags := Spec.sumFlags s.regs.a m.1 cin
        pc := s.pc + 1, intInhibit := false }) ∧
    (ChartRow (Instr.aluImm op d8) (0xC6 + 8 * op.code) 2 (7, 7) .all ∧
      exec (Instr.aluImm op d8) s = .next { s with
        regs := { s.regs with a := Spec.sum s.regs.a d8 cin }
        flags := Spec.sumFlags s.regs.a d8 cin
        pc := s.pc + 2, intInhibit := false })

/-- 44_alu_8bit.md R210, R212, R218 to R221, R232, R233: `SUB` and `SBB` with a register, M and an immediate: C is the
borrow, A (the auxiliary carry) is 1 when there is no borrow from bit 4. Constructors subB to subA, subM, sui, sbbB to
sbbA, sbbM, sbi. -/
def Obligations.Subtractions : Prop :=
  ∀ (s : State) (d8 : Byte) (op : AluOp) (bin : Bool), (op, bin) ∈ [(AluOp.sub, false), (.sbb, s.flags.c)] →
    let m := s.memRead (wordOf s.regs.h s.regs.l)
    (∀ r : Reg, ChartRow (Instr.aluReg op r) (0x80 + 8 * op.code + r.code) 1 (4, 4) .all ∧
      exec (Instr.aluReg op r) s = .next { s with
        regs := { s.regs with a := Spec.diff s.regs.a (s.regs.get r) bin }
        flags := Spec.diffFlags s.regs.a (s.regs.get r) bin
        pc := s.pc + 1, intInhibit := false }) ∧
    (ChartRow (Instr.aluM op) (0x86 + 8 * op.code) 1 (7, 7) .all ∧
      exec (Instr.aluM op) s = .next { m.2 with
        regs := { s.regs with a := Spec.diff s.regs.a m.1 bin }
        flags := Spec.diffFlags s.regs.a m.1 bin
        pc := s.pc + 1, intInhibit := false }) ∧
    (ChartRow (Instr.aluImm op d8) (0xC6 + 8 * op.code) 2 (7, 7) .all ∧
      exec (Instr.aluImm op d8) s = .next { s with
        regs := { s.regs with a := Spec.diff s.regs.a d8 bin }
        flags := Spec.diffFlags s.regs.a d8 bin
        pc := s.pc + 2, intInhibit := false })

/-- 44_alu_8bit.md R210, R212, R228, R229, R237: `CMP` and `CPI` set the flags of the subtraction and write no
register; Z says that A equals the operand, C that A is less, unsigned. Constructors cmpB to cmpA, cmpM, cpi. -/
def Obligations.Comparisons : Prop :=
  ∀ (s : State) (d8 : Byte),
    let m := s.memRead (wordOf s.regs.h s.regs.l)
    (∀ r : Reg, ChartRow (Instr.aluReg .cmp r) (0xB8 + r.code) 1 (4, 4) .all ∧
      exec (Instr.aluReg .cmp r) s = .next { s with
        flags := Spec.diffFlags s.regs.a (s.regs.get r) false, pc := s.pc + 1, intInhibit := false }) ∧
    (ChartRow .cmpM 0xBE 1 (7, 7) .all ∧
      exec .cmpM s = .next { m.2 with
        flags := Spec.diffFlags s.regs.a m.1 false, pc := s.pc + 1, intInhibit := false }) ∧
    (ChartRow (.cpi d8) 0xFE 2 (7, 7) .all ∧
      exec (.cpi d8) s = .next { s with
        flags := Spec.diffFlags s.regs.a d8 false, pc := s.pc + 2, intInhibit := false }) ∧
    (∀ a b : Byte, (Spec.diffFlags a b false).z = decide (a = b) ∧
      (Spec.diffFlags a b false).c = decide (a.toNat < b.toNat))

/-- 44_alu_8bit.md R213, R222 to R227, R234 to R236: `ANA`, `XRA`, `ORA` with a register, M and an immediate: C is
cleared; the auxiliary carry is cleared but for `ANA` and `ANI`, where the parameter `AndAuxCarry` decides it.
Constructors anaB to anaA, anaM, ani, xraB to xraA, xraM, xri, oraB to oraA, oraM, ori. -/
def Obligations.Logicals : Prop :=
  ∀ (s : State) (d8 : Byte) (op : AluOp) (f : Byte → Byte → Byte) (aux : Byte → Byte → Bool),
    (op = .ana ∧ f = (fun a b => a &&& b) ∧ aux = Spec.andAux s.cfg ∨
      op = .xra ∧ f = (fun a b => a ^^^ b) ∧ aux = (fun _ _ => false) ∨
      op = .ora ∧ f = (fun a b => a ||| b) ∧ aux = (fun _ _ => false)) →
    let m := s.memRead (wordOf s.regs.h s.regs.l)
    (∀ r : Reg, ChartRow (Instr.aluReg op r) (0x80 + 8 * op.code + r.code) 1 (4, 4) .all ∧
      exec (Instr.aluReg op r) s = .next { s with
        regs := { s.regs with a := f s.regs.a (s.regs.get r) }
        flags := Spec.flags (f s.regs.a (s.regs.get r)) (aux s.regs.a (s.regs.get r)) false
        pc := s.pc + 1, intInhibit := false }) ∧
    (ChartRow (Instr.aluM op) (0x86 + 8 * op.code) 1 (7, 7) .all ∧
      exec (Instr.aluM op) s = .next { m.2 with
        regs := { s.regs with a := f s.regs.a m.1 }
        flags := Spec.flags (f s.regs.a m.1) (aux s.regs.a m.1) false
        pc := s.pc + 1, intInhibit := false }) ∧
    (ChartRow (Instr.aluImm op d8) (0xC6 + 8 * op.code) 2 (7, 7) .all ∧
      exec (Instr.aluImm op d8) s = .next { s with
        regs := { s.regs with a := f s.regs.a d8 }
        flags := Spec.flags (f s.regs.a d8) (aux s.regs.a d8) false
        pc := s.pc + 2, intInhibit := false })

/-- 44_alu_8bit.md R238 to R241: `INR` and `DCR` of a register and of M: the result modulo 256, S, Z, P of it, the
auxiliary carry, and C kept. M is read once and written once; the flags follow the result whatever class the address
has. Constructors inrB to inrA, inrM, dcrB to dcrA, dcrM. -/
def Obligations.IncrementsDecrements : Prop :=
  ∀ s : State,
    let hl := wordOf s.regs.h s.regs.l
    let m := s.memRead hl
    let up (v : Byte) : Byte := BitVec.ofNat 8 (v.toNat + 1)
    let upFlags (v : Byte) : Flags := Spec.flags (up v) (decide ((up v).toNat % 16 = 0)) s.flags.c
    let down (v : Byte) : Byte := BitVec.ofNat 8 (v.toNat + 255)
    let downFlags (v : Byte) : Flags := Spec.flags (down v) (decide ((down v).toNat % 16 ≠ 15)) s.flags.c
    (∀ r : Reg, ChartRow (Instr.inrReg r) (0x04 + 8 * r.code) 1 (5, 5) .szap ∧
      exec (Instr.inrReg r) s = .next { s with
        regs := s.regs.set r (up (s.regs.get r)), flags := upFlags (s.regs.get r)
        pc := s.pc + 1, intInhibit := false }) ∧
    (ChartRow .inrM 0x34 1 (10, 10) .szap ∧
      exec .inrM s = .next { m.2.memWrite hl (up m.1) with
        flags := upFlags m.1, pc := s.pc + 1, intInhibit := false }) ∧
    (∀ r : Reg, ChartRow (Instr.dcrReg r) (0x05 + 8 * r.code) 1 (5, 5) .szap ∧
      exec (Instr.dcrReg r) s = .next { s with
        regs := s.regs.set r (down (s.regs.get r)), flags := downFlags (s.regs.get r)
        pc := s.pc + 1, intInhibit := false }) ∧
    (ChartRow .dcrM 0x35 1 (10, 10) .szap ∧
      exec .dcrM s = .next { m.2.memWrite hl (down m.1) with
        flags := downFlags m.1, pc := s.pc + 1, intInhibit := false })

/-- 44_alu_8bit.md R242 to R245: the four rotates, on numbers; only A and C change. Constructors rlc, rrc, ral, rar. -/
def Obligations.Rotates : Prop :=
  ∀ s : State,
    let a := s.regs.a.toNat
    let rotated (res : Nat) (carry : Bool) : State := { s with
      regs := { s.regs with a := BitVec.ofNat 8 res }
      flags := { s.flags with c := carry }
      pc := s.pc + 1, intInhibit := false }
    (ChartRow .rlc 0x07 1 (4, 4) .carry ∧
      exec .rlc s = .next (rotated (2 * a % 256 + a / 128) (decide (128 ≤ a)))) ∧
    (ChartRow .rrc 0x0F 1 (4, 4) .carry ∧
      exec .rrc s = .next (rotated (a / 2 + 128 * (a % 2)) (decide (a % 2 = 1)))) ∧
    (ChartRow .ral 0x17 1 (4, 4) .carry ∧
      exec .ral s = .next (rotated (2 * a % 256 + s.flags.c.toNat) (decide (128 ≤ a)))) ∧
    (ChartRow .rar 0x1F 1 (4, 4) .carry ∧
      exec .rar s = .next (rotated (a / 2 + 128 * s.flags.c.toNat) (decide (a % 2 = 1))))

/-- 44_alu_8bit.md R246 to R249: `DAA` adds the correction chosen from the old A, A flag and C, never clears C, and
sets S, Z, P and the auxiliary carry from that addition; `CMA` complements A and touches no flag; `STC` and `CMC`
write C alone. Constructors daa, cma, stc, cmc. -/
def Obligations.AdjustComplementCarry : Prop :=
  ∀ s : State,
    let a := s.regs.a
    let corr := Spec.correction s.flags a
    let adjusted : Byte := BitVec.ofNat 8 (a.toNat + corr)
    (ChartRow .daa 0x27 1 (4, 4) .all ∧
      exec .daa s = .next { s with
        regs := { s.regs with a := adjusted }
        flags := Spec.flags adjusted (decide (15 < a.toNat % 16 + corr % 16)) (s.flags.c || Spec.adjustsHigh s.flags a)
        pc := s.pc + 1, intInhibit := false }) ∧
    (ChartRow .cma 0x2F 1 (4, 4) .none ∧
      exec .cma s = .next { s with
        regs := { s.regs with a := BitVec.ofNat 8 (255 - a.toNat) }, pc := s.pc + 1, intInhibit := false }) ∧
    (ChartRow .stc 0x37 1 (4, 4) .carry ∧
      exec .stc s = .next { s with flags := { s.flags with c := true }, pc := s.pc + 1, intInhibit := false }) ∧
    (ChartRow .cmc 0x3F 1 (4, 4) .carry ∧
      exec .cmc s = .next { s with flags := { s.flags with c := !s.flags.c }, pc := s.pc + 1, intInhibit := false })

/-- T7 of 95_test_vectors.md, 44_alu_8bit.md R216, R231, R246: for decimal digit pairs `x` and `y` and the carry,
`ADC` (of a register or an immediate) and then `DAA` leave in A the digit pair of the sum modulo 100 and in C the
decimal carry. Constructors adcB to adcA, aci, daa. -/
def Obligations.DecimalAddition : Prop :=
  ∀ (s : State) (x y : Nat) (i : Instr), x < 100 → y < 100 → s.regs.a = Spec.bcd x →
    (i = .aci (Spec.bcd y) ∨ ∃ r : Reg, i = Instr.aluReg .adc r ∧ s.regs.get r = Spec.bcd y) →
    ∃ t u, exec i s = .next t ∧ exec .daa t = .next u ∧
      u.regs.a = Spec.bcd ((x + y + s.flags.c.toNat) % 100) ∧
      u.flags.c = decide (100 ≤ x + y + s.flags.c.toNat)

/-! ### 16-bit arithmetic (45_alu_16bit.md) -/

/-- 45_alu_16bit.md R270, R271: `INX` and `DCX` of a pair or SP, modulo 2^16; no flag. Constructors inxB, inxD, inxH,
inxSp, dcxB, dcxD, dcxH, dcxSp. -/
def Obligations.PairIncrementsDecrements : Prop :=
  ∀ (s : State) (up : Bool),
    let moved (w : Word) : Word := BitVec.ofNat 16 (w.toNat + (if up then 1 else 65535))
    let i (p : Pair16) : Instr := if up then Instr.inx p else Instr.dcx p
    let bc := moved (wordOf s.regs.b s.regs.c)
    let de := moved (wordOf s.regs.d s.regs.e)
    let hl := moved (wordOf s.regs.h s.regs.l)
    (∀ p : Pair16, ChartRow (i p) ((if up then 0x03 else 0x0B) + 16 * p.code) 1 (5, 5) .none) ∧
    exec (i .bc) s = .next { s with
      regs := { s.regs with b := hiByte bc, c := loByte bc }, pc := s.pc + 1, intInhibit := false } ∧
    exec (i .de) s = .next { s with
      regs := { s.regs with d := hiByte de, e := loByte de }, pc := s.pc + 1, intInhibit := false } ∧
    exec (i .hl) s = .next { s with
      regs := { s.regs with h := hiByte hl, l := loByte hl }, pc := s.pc + 1, intInhibit := false } ∧
    exec (i .sp) s = .next { s with sp := moved s.sp, pc := s.pc + 1, intInhibit := false }

/-- 45_alu_16bit.md R272: `DAD` adds a pair or SP to H,L modulo 2^16 and sets C to the carry out of bit 15; no other
flag. Constructors dadB, dadD, dadH, dadSp. -/
def Obligations.PairAdditions : Prop :=
  ∀ (s : State) (p : Pair16),
    let hl := wordOf s.regs.h s.regs.l
    let rp : Word := match p with
      | .bc => wordOf s.regs.b s.regs.c
      | .de => wordOf s.regs.d s.regs.e
      | .hl => hl
      | .sp => s.sp
    let total : Word := BitVec.ofNat 16 (hl.toNat + rp.toNat)
    ChartRow (Instr.dad p) (0x09 + 16 * p.code) 1 (10, 10) .carry ∧
    exec (Instr.dad p) s = .next { s with
      regs := { s.regs with h := hiByte total, l := loByte total }
      flags := { s.flags with c := decide (65536 ≤ hl.toNat + rp.toNat) }
      pc := s.pc + 1, intInhibit := false }
end

