-- ==== Sys2Proof/Laws/Memory.lean ====
section
/-! SUPPORT. Memory as data: every write keeps the canonical form, a read after a write gives the byte written there
and the old byte elsewhere (20_memory.md R51, R60). -/

namespace Sys2Proof.Machine

/-! ### The canonical form -/

theorem Memory.wf_nil : Memory.wf [] = true := rfl

/-- Every address of a rising list lies above its first. -/
theorem Memory.rising_head_lt {c : Host.Cell} {m : Memory} (h : Memory.rising (c :: m) = true) :
    ∀ d ∈ m, c.1 < d.1 := by
  induction m generalizing c with
  | nil => intro d hd; cases hd
  | cons e rest ih =>
    simp only [Memory.rising, Bool.and_eq_true, decide_eq_true_eq] at h
    intro d hd
    rcases List.mem_cons.mp hd with rfl | hd
    · exact h.1
    · exact Nat.lt_trans h.1 (ih h.2 d hd)

theorem Memory.rising_tail {c : Host.Cell} {m : Memory} (h : Memory.rising (c :: m) = true) :
    Memory.rising m = true := by
  cases m with
  | nil => rfl
  | cons d rest => simp only [Memory.rising, Bool.and_eq_true] at h; exact h.2

/-- A cell below a rising list makes a rising list. -/
theorem Memory.rising_cons {c : Host.Cell} {m : Memory} (h : Memory.rising m = true)
    (hc : ∀ d ∈ m, c.1 < d.1) : Memory.rising (c :: m) = true := by
  cases m with
  | nil => rfl
  | cons d rest =>
    simp only [Memory.rising, Bool.and_eq_true, decide_eq_true_eq]
    exact ⟨hc d (by simp), h⟩

/-- The cells of a memory with one set are the one set and cells that were there. -/
theorem Memory.mem_set {m : Memory} {a : Nat} {v : Byte} {c : Host.Cell} (h : c ∈ m.set a v) :
    c = (a, v) ∨ c ∈ m := by
  induction m with
  | nil => simpa [Memory.set] using h
  | cons d rest ih =>
    obtain ⟨k, w⟩ := d
    simp only [Memory.set] at h
    split at h
    · simpa using h
    · split at h
      · rcases List.mem_cons.mp h with h | h
        · exact .inl h
        · exact .inr (List.mem_cons_of_mem _ h)
      · rcases List.mem_cons.mp h with h | h
        · exact .inr (h ▸ List.mem_cons_self)
        · rcases ih h with h | h
          · exact .inl h
          · exact .inr (List.mem_cons_of_mem _ h)

theorem Memory.rising_set {m : Memory} (a : Nat) (v : Byte) (h : Memory.rising m = true) :
    Memory.rising (m.set a v) = true := by
  induction m with
  | nil => rfl
  | cons d rest ih =>
    obtain ⟨k, w⟩ := d
    have hlt := Memory.rising_head_lt h
    have ht := Memory.rising_tail h
    simp only [Memory.set]
    split
    · next hak =>
      refine Memory.rising_cons h ?_
      intro e he
      rcases List.mem_cons.mp he with rfl | he
      · exact hak
      · exact Nat.lt_trans hak (hlt e he)
    · split
      · next hak => exact Memory.rising_cons ht (fun e he => hak ▸ hlt e he)
      · refine Memory.rising_cons (ih ht) ?_
        intro e he
        rcases Memory.mem_set he with rfl | he
        · show k < a; omega
        · exact hlt e he

/-- A write keeps the canonical form. -/
theorem Memory.wf_write {m : Memory} (a : Word) (v : Byte) (h : m.wf = true) : (m.write a v).wf = true := by
  simp only [Memory.wf, Bool.and_eq_true, List.all_eq_true, decide_eq_true_eq] at h ⊢
  refine ⟨Memory.rising_set a.toNat v h.1, ?_⟩
  intro c hc
  rcases Memory.mem_set hc with rfl | hc
  · exact a.isLt
  · exact h.2 c hc

/-- Loading a list of bytes keeps the canonical form. -/
theorem Memory.wf_load {m : Memory} (a : Word) (bytes : List Byte) (h : m.wf = true) :
    (m.load a bytes).wf = true := by
  induction bytes generalizing m a with
  | nil => exact h
  | cons v rest ih => exact ih (a + 1) (Memory.wf_write a v h)

theorem State.reset_mem_wf : State.reset.mem.wf = true := rfl

/-! ### Read after write -/

theorem Memory.cellAt_set_same (m : Memory) (a : Nat) (v : Byte) : (m.set a v).cellAt a = some v := by
  induction m with
  | nil => simp [Memory.set, Memory.cellAt]
  | cons d rest ih =>
    obtain ⟨k, w⟩ := d
    simp only [Memory.set]
    split
    · simp [Memory.cellAt]
    · split
      · simp [Memory.cellAt]
      · next hne => simp only [Memory.cellAt, ih]; simp [Ne.symm hne]

theorem Memory.cellAt_set_ne (m : Memory) {a b : Nat} (v : Byte) (h : b ≠ a) :
    (m.set a v).cellAt b = m.cellAt b := by
  induction m with
  | nil => simp [Memory.set, Memory.cellAt, Ne.symm h]
  | cons d rest ih =>
    obtain ⟨k, w⟩ := d
    simp only [Memory.set]
    split
    · simp [Memory.cellAt, Ne.symm h]
    · split
      · next hak => simp [Memory.cellAt, ← hak, Ne.symm h]
      · simp only [Memory.cellAt, ih]

@[simp] theorem Memory.read_write_same (m : Memory) (a : Word) (v : Byte) : (m.write a v).read a = v := by
  simp [Memory.read, Memory.write, Memory.cellAt_set_same]

theorem Memory.read_write_ne (m : Memory) {a b : Word} (v : Byte) (h : b ≠ a) :
    (m.write a v).read b = m.read b := by
  have hn : b.toNat ≠ a.toNat := fun he => h (BitVec.eq_of_toNat_eq he)
  simp only [Memory.read, Memory.write, Memory.cellAt_set_ne m v hn]

/-- What a read gives after a write: the byte written, or what was there. -/
theorem Memory.read_write (m : Memory) (a b : Word) (v : Byte) :
    (m.write a v).read b = if b = a then v else m.read b := by
  split
  · next h => rw [h, Memory.read_write_same]
  · next h => exact Memory.read_write_ne m v h

end Sys2Proof.Machine
end

