-- ==== Sys2Proof/Laws/State.lean ====
section
/-! SUPPORT. What each update of the state leaves in each field, one lemma a field and update, all simp lemmas: a later
proof rewrites with these and unfolds no update. -/

namespace Sys2Proof.Machine

/-! ### The register file -/

@[simp] theorem Regs.get_set_same (x : Regs) (r : Reg) (v : Byte) : (x.set r v).get r = v := by
  cases r <;> rfl

theorem Regs.get_set_ne (x : Regs) {r q : Reg} (v : Byte) (h : q ≠ r) : (x.set r v).get q = x.get q := by
  cases r <;> cases q <;> first | rfl | exact absurd rfl h

/-- Reading a register after a write of one: the new value or the old. -/
theorem Regs.get_set (x : Regs) (r q : Reg) (v : Byte) :
    (x.set r v).get q = if q = r then v else x.get q := by
  split
  · next h => rw [h, Regs.get_set_same]
  · next h => exact Regs.get_set_ne x v h

@[simp] theorem State.reg_setReg_same (s : State) (r : Reg) (v : Byte) : (s.setReg r v).reg r = v :=
  Regs.get_set_same s.regs r v

theorem State.reg_setReg_ne (s : State) {r q : Reg} (v : Byte) (h : q ≠ r) : (s.setReg r v).reg q = s.reg q :=
  Regs.get_set_ne s.regs v h

/-! ### `advance` -/

@[simp] theorem State.advance_regs (s : State) (len : Nat) : (s.advance len).regs = s.regs := rfl
@[simp] theorem State.advance_flags (s : State) (len : Nat) : (s.advance len).flags = s.flags := rfl
@[simp] theorem State.advance_sp (s : State) (len : Nat) : (s.advance len).sp = s.sp := rfl
@[simp] theorem State.advance_pc (s : State) (len : Nat) : (s.advance len).pc = s.pc + BitVec.ofNat 16 len := rfl
@[simp] theorem State.advance_inte (s : State) (len : Nat) : (s.advance len).inte = s.inte := rfl
@[simp] theorem State.advance_halted (s : State) (len : Nat) : (s.advance len).halted = s.halted := rfl
@[simp] theorem State.advance_intInhibit (s : State) (len : Nat) : (s.advance len).intInhibit = false := rfl
@[simp] theorem State.advance_mem (s : State) (len : Nat) : (s.advance len).mem = s.mem := rfl
@[simp] theorem State.advance_cfg (s : State) (len : Nat) : (s.advance len).cfg = s.cfg := rfl
@[simp] theorem State.advance_plat (s : State) (len : Nat) : (s.advance len).plat = s.plat := rfl

/-! ### `jump` -/

@[simp] theorem State.jump_regs (s : State) (target : Word) : (s.jump target).regs = s.regs := rfl
@[simp] theorem State.jump_flags (s : State) (target : Word) : (s.jump target).flags = s.flags := rfl
@[simp] theorem State.jump_sp (s : State) (target : Word) : (s.jump target).sp = s.sp := rfl
@[simp] theorem State.jump_pc (s : State) (target : Word) : (s.jump target).pc = target := rfl
@[simp] theorem State.jump_inte (s : State) (target : Word) : (s.jump target).inte = s.inte := rfl
@[simp] theorem State.jump_halted (s : State) (target : Word) : (s.jump target).halted = s.halted := rfl
@[simp] theorem State.jump_intInhibit (s : State) (target : Word) : (s.jump target).intInhibit = false := rfl
@[simp] theorem State.jump_mem (s : State) (target : Word) : (s.jump target).mem = s.mem := rfl
@[simp] theorem State.jump_cfg (s : State) (target : Word) : (s.jump target).cfg = s.cfg := rfl
@[simp] theorem State.jump_plat (s : State) (target : Word) : (s.jump target).plat = s.plat := rfl

/-! ### `setReg` -/

@[simp] theorem State.setReg_regs (s : State) (r : Reg) (v : Byte) : (s.setReg r v).regs = s.regs.set r v := rfl
@[simp] theorem State.setReg_flags (s : State) (r : Reg) (v : Byte) : (s.setReg r v).flags = s.flags := rfl
@[simp] theorem State.setReg_sp (s : State) (r : Reg) (v : Byte) : (s.setReg r v).sp = s.sp := rfl
@[simp] theorem State.setReg_pc (s : State) (r : Reg) (v : Byte) : (s.setReg r v).pc = s.pc := rfl
@[simp] theorem State.setReg_inte (s : State) (r : Reg) (v : Byte) : (s.setReg r v).inte = s.inte := rfl
@[simp] theorem State.setReg_halted (s : State) (r : Reg) (v : Byte) : (s.setReg r v).halted = s.halted := rfl
@[simp] theorem State.setReg_intInhibit (s : State) (r : Reg) (v : Byte) : (s.setReg r v).intInhibit = s.intInhibit := rfl
@[simp] theorem State.setReg_mem (s : State) (r : Reg) (v : Byte) : (s.setReg r v).mem = s.mem := rfl
@[simp] theorem State.setReg_cfg (s : State) (r : Reg) (v : Byte) : (s.setReg r v).cfg = s.cfg := rfl
@[simp] theorem State.setReg_plat (s : State) (r : Reg) (v : Byte) : (s.setReg r v).plat = s.plat := rfl

/-! ### `setPair` -/

@[simp] theorem State.setPair_regs (s : State) (p : Pair) (v : Word) : (s.setPair p v).regs = (s.regs.set (hiReg p) (hiByte v)).set (loReg p) (loByte v) := rfl
@[simp] theorem State.setPair_flags (s : State) (p : Pair) (v : Word) : (s.setPair p v).flags = s.flags := rfl
@[simp] theorem State.setPair_sp (s : State) (p : Pair) (v : Word) : (s.setPair p v).sp = s.sp := rfl
@[simp] theorem State.setPair_pc (s : State) (p : Pair) (v : Word) : (s.setPair p v).pc = s.pc := rfl
@[simp] theorem State.setPair_inte (s : State) (p : Pair) (v : Word) : (s.setPair p v).inte = s.inte := rfl
@[simp] theorem State.setPair_halted (s : State) (p : Pair) (v : Word) : (s.setPair p v).halted = s.halted := rfl
@[simp] theorem State.setPair_intInhibit (s : State) (p : Pair) (v : Word) : (s.setPair p v).intInhibit = s.intInhibit := rfl
@[simp] theorem State.setPair_mem (s : State) (p : Pair) (v : Word) : (s.setPair p v).mem = s.mem := rfl
@[simp] theorem State.setPair_cfg (s : State) (p : Pair) (v : Word) : (s.setPair p v).cfg = s.cfg := rfl
@[simp] theorem State.setPair_plat (s : State) (p : Pair) (v : Word) : (s.setPair p v).plat = s.plat := rfl

/-! ### `setPair16` -/

@[simp] theorem State.setPair16_flags (s : State) (p : Pair16) (v : Word) : (s.setPair16 p v).flags = s.flags := by cases p <;> rfl
@[simp] theorem State.setPair16_pc (s : State) (p : Pair16) (v : Word) : (s.setPair16 p v).pc = s.pc := by cases p <;> rfl
@[simp] theorem State.setPair16_inte (s : State) (p : Pair16) (v : Word) : (s.setPair16 p v).inte = s.inte := by cases p <;> rfl
@[simp] theorem State.setPair16_halted (s : State) (p : Pair16) (v : Word) : (s.setPair16 p v).halted = s.halted := by cases p <;> rfl
@[simp] theorem State.setPair16_intInhibit (s : State) (p : Pair16) (v : Word) : (s.setPair16 p v).intInhibit = s.intInhibit := by cases p <;> rfl
@[simp] theorem State.setPair16_mem (s : State) (p : Pair16) (v : Word) : (s.setPair16 p v).mem = s.mem := by cases p <;> rfl
@[simp] theorem State.setPair16_cfg (s : State) (p : Pair16) (v : Word) : (s.setPair16 p v).cfg = s.cfg := by cases p <;> rfl
@[simp] theorem State.setPair16_plat (s : State) (p : Pair16) (v : Word) : (s.setPair16 p v).plat = s.plat := by cases p <;> rfl

/-! ### `setPsw` -/

@[simp] theorem State.setPsw_regs (s : State) (v : Word) : (s.setPsw v).regs = s.regs.set .a (hiByte v) := rfl
@[simp] theorem State.setPsw_flags (s : State) (v : Word) : (s.setPsw v).flags = Flags.ofByte (loByte v) := rfl
@[simp] theorem State.setPsw_sp (s : State) (v : Word) : (s.setPsw v).sp = s.sp := rfl
@[simp] theorem State.setPsw_pc (s : State) (v : Word) : (s.setPsw v).pc = s.pc := rfl
@[simp] theorem State.setPsw_inte (s : State) (v : Word) : (s.setPsw v).inte = s.inte := rfl
@[simp] theorem State.setPsw_halted (s : State) (v : Word) : (s.setPsw v).halted = s.halted := rfl
@[simp] theorem State.setPsw_intInhibit (s : State) (v : Word) : (s.setPsw v).intInhibit = s.intInhibit := rfl
@[simp] theorem State.setPsw_mem (s : State) (v : Word) : (s.setPsw v).mem = s.mem := rfl
@[simp] theorem State.setPsw_cfg (s : State) (v : Word) : (s.setPsw v).cfg = s.cfg := rfl
@[simp] theorem State.setPsw_plat (s : State) (v : Word) : (s.setPsw v).plat = s.plat := rfl

/-! ### `setCarry` -/

@[simp] theorem State.setCarry_regs (s : State) (v : Bool) : (s.setCarry v).regs = s.regs := rfl
@[simp] theorem State.setCarry_flags (s : State) (v : Bool) : (s.setCarry v).flags = { s.flags with c := v } := rfl
@[simp] theorem State.setCarry_sp (s : State) (v : Bool) : (s.setCarry v).sp = s.sp := rfl
@[simp] theorem State.setCarry_pc (s : State) (v : Bool) : (s.setCarry v).pc = s.pc := rfl
@[simp] theorem State.setCarry_inte (s : State) (v : Bool) : (s.setCarry v).inte = s.inte := rfl
@[simp] theorem State.setCarry_halted (s : State) (v : Bool) : (s.setCarry v).halted = s.halted := rfl
@[simp] theorem State.setCarry_intInhibit (s : State) (v : Bool) : (s.setCarry v).intInhibit = s.intInhibit := rfl
@[simp] theorem State.setCarry_mem (s : State) (v : Bool) : (s.setCarry v).mem = s.mem := rfl
@[simp] theorem State.setCarry_cfg (s : State) (v : Bool) : (s.setCarry v).cfg = s.cfg := rfl
@[simp] theorem State.setCarry_plat (s : State) (v : Bool) : (s.setCarry v).plat = s.plat := rfl

/-! ### `record` -/

@[simp] theorem State.record_regs (s : State) (ev : Event) : (s.record ev).regs = s.regs := rfl
@[simp] theorem State.record_flags (s : State) (ev : Event) : (s.record ev).flags = s.flags := rfl
@[simp] theorem State.record_sp (s : State) (ev : Event) : (s.record ev).sp = s.sp := rfl
@[simp] theorem State.record_pc (s : State) (ev : Event) : (s.record ev).pc = s.pc := rfl
@[simp] theorem State.record_inte (s : State) (ev : Event) : (s.record ev).inte = s.inte := rfl
@[simp] theorem State.record_halted (s : State) (ev : Event) : (s.record ev).halted = s.halted := rfl
@[simp] theorem State.record_intInhibit (s : State) (ev : Event) : (s.record ev).intInhibit = s.intInhibit := rfl
@[simp] theorem State.record_mem (s : State) (ev : Event) : (s.record ev).mem = s.mem := rfl
@[simp] theorem State.record_cfg (s : State) (ev : Event) : (s.record ev).cfg = s.cfg := rfl
@[simp] theorem State.record_plat (s : State) (ev : Event) : (s.record ev).plat = { s.plat with trace := s.plat.trace ++ [ev] } := rfl

/-! ### `portWrite` -/

@[simp] theorem State.portWrite_regs (s : State) (p v : Byte) : (s.portWrite p v).regs = s.regs := rfl
@[simp] theorem State.portWrite_flags (s : State) (p v : Byte) : (s.portWrite p v).flags = s.flags := rfl
@[simp] theorem State.portWrite_sp (s : State) (p v : Byte) : (s.portWrite p v).sp = s.sp := rfl
@[simp] theorem State.portWrite_pc (s : State) (p v : Byte) : (s.portWrite p v).pc = s.pc := rfl
@[simp] theorem State.portWrite_inte (s : State) (p v : Byte) : (s.portWrite p v).inte = s.inte := rfl
@[simp] theorem State.portWrite_halted (s : State) (p v : Byte) : (s.portWrite p v).halted = s.halted := rfl
@[simp] theorem State.portWrite_intInhibit (s : State) (p v : Byte) : (s.portWrite p v).intInhibit = s.intInhibit := rfl
@[simp] theorem State.portWrite_mem (s : State) (p v : Byte) : (s.portWrite p v).mem = s.mem := rfl
@[simp] theorem State.portWrite_cfg (s : State) (p v : Byte) : (s.portWrite p v).cfg = s.cfg := rfl
@[simp] theorem State.portWrite_plat (s : State) (p v : Byte) : (s.portWrite p v).plat = { s.plat with trace := s.plat.trace ++ [.portWrite p v] } := rfl

/-! ### `pastBoundary` -/

@[simp] theorem State.pastBoundary_regs (s : State) : (s.pastBoundary).regs = s.regs := rfl
@[simp] theorem State.pastBoundary_flags (s : State) : (s.pastBoundary).flags = s.flags := rfl
@[simp] theorem State.pastBoundary_sp (s : State) : (s.pastBoundary).sp = s.sp := rfl
@[simp] theorem State.pastBoundary_pc (s : State) : (s.pastBoundary).pc = s.pc := rfl
@[simp] theorem State.pastBoundary_inte (s : State) : (s.pastBoundary).inte = s.inte := rfl
@[simp] theorem State.pastBoundary_halted (s : State) : (s.pastBoundary).halted = s.halted := rfl
@[simp] theorem State.pastBoundary_intInhibit (s : State) : (s.pastBoundary).intInhibit = s.intInhibit := rfl
@[simp] theorem State.pastBoundary_mem (s : State) : (s.pastBoundary).mem = s.mem := rfl
@[simp] theorem State.pastBoundary_cfg (s : State) : (s.pastBoundary).cfg = s.cfg := rfl
@[simp] theorem State.pastBoundary_plat (s : State) : (s.pastBoundary).plat = { s.plat with boundary := s.plat.boundary.tail } := rfl

/-! ### `resetEvent` -/

@[simp] theorem State.resetEvent_regs (s : State) : (s.resetEvent).regs = s.regs := rfl
@[simp] theorem State.resetEvent_flags (s : State) : (s.resetEvent).flags = s.flags := rfl
@[simp] theorem State.resetEvent_sp (s : State) : (s.resetEvent).sp = s.sp := rfl
@[simp] theorem State.resetEvent_pc (s : State) : (s.resetEvent).pc = 0 := rfl
@[simp] theorem State.resetEvent_inte (s : State) : (s.resetEvent).inte = false := rfl
@[simp] theorem State.resetEvent_halted (s : State) : (s.resetEvent).halted = false := rfl
@[simp] theorem State.resetEvent_intInhibit (s : State) : (s.resetEvent).intInhibit = false := rfl
@[simp] theorem State.resetEvent_mem (s : State) : (s.resetEvent).mem = s.mem := rfl
@[simp] theorem State.resetEvent_cfg (s : State) : (s.resetEvent).cfg = s.cfg := rfl
@[simp] theorem State.resetEvent_plat (s : State) : (s.resetEvent).plat = s.plat := rfl

end Sys2Proof.Machine
end

