-- ==== Sys2Proof/Laws/Ops.lean ====
section
/-! SUPPORT. For each shared operation, once, everything it can do: the fields it keeps (simp lemmas) and what the
fields it writes become. A later proof cites these and unfolds no operation. -/

namespace Sys2Proof.Machine

/-! ### Bytes and words -/

@[simp] theorem loByte_wordOf (hi lo : Byte) : loByte (wordOf hi lo) = lo := by
  apply BitVec.eq_of_getLsbD_eq
  intro i hi'
  simp only [loByte, wordOf, BitVec.getLsbD_extractLsb', BitVec.getLsbD_append]
  simp [hi']

@[simp] theorem hiByte_wordOf (hi lo : Byte) : hiByte (wordOf hi lo) = hi := by
  apply BitVec.eq_of_getLsbD_eq
  intro i hi'
  simp only [hiByte, wordOf, BitVec.getLsbD_extractLsb', BitVec.getLsbD_append]
  simp [hi']

@[simp] theorem wordOf_hiByte_loByte (w : Word) : wordOf (hiByte w) (loByte w) = w := by
  apply BitVec.eq_of_getLsbD_eq
  intro i hi'
  simp only [wordOf, hiByte, loByte, BitVec.getLsbD_append, BitVec.getLsbD_extractLsb']
  by_cases h : i < 8
  · simp [h]
  · have h8 : i - 8 < 8 := by omega
    have he : 8 + (i - 8) = i := by omega
    simp [h, h8, he]

/-- A pair reads as the two registers of it. -/
theorem State.pair_setPair (s : State) (p : Pair) (v : Word) : (s.setPair p v).pair p = v := by
  cases p <;> simp [State.pair, State.setPair, State.reg, State.setReg, hiReg, loReg, Regs.get, Regs.set]

/-! ### Draws, events and ports: only the platform's side changes -/

@[simp] theorem State.draw_regs (s : State) : (s.draw.2).regs = s.regs := by
  unfold State.draw; split <;> rfl
@[simp] theorem State.draw_flags (s : State) : (s.draw.2).flags = s.flags := by
  unfold State.draw; split <;> rfl
@[simp] theorem State.draw_sp (s : State) : (s.draw.2).sp = s.sp := by
  unfold State.draw; split <;> rfl
@[simp] theorem State.draw_pc (s : State) : (s.draw.2).pc = s.pc := by
  unfold State.draw; split <;> rfl
@[simp] theorem State.draw_inte (s : State) : (s.draw.2).inte = s.inte := by
  unfold State.draw; split <;> rfl
@[simp] theorem State.draw_halted (s : State) : (s.draw.2).halted = s.halted := by
  unfold State.draw; split <;> rfl
@[simp] theorem State.draw_intInhibit (s : State) : (s.draw.2).intInhibit = s.intInhibit := by
  unfold State.draw; split <;> rfl
@[simp] theorem State.draw_mem (s : State) : (s.draw.2).mem = s.mem := by
  unfold State.draw; split <;> rfl
@[simp] theorem State.draw_cfg (s : State) : (s.draw.2).cfg = s.cfg := by
  unfold State.draw; split <;> rfl

@[simp] theorem State.portRead_regs (s : State) (p : Byte) : ((s.portRead p).2).regs = s.regs := by
  simp [State.portRead]
@[simp] theorem State.portRead_flags (s : State) (p : Byte) : ((s.portRead p).2).flags = s.flags := by
  simp [State.portRead]
@[simp] theorem State.portRead_sp (s : State) (p : Byte) : ((s.portRead p).2).sp = s.sp := by
  simp [State.portRead]
@[simp] theorem State.portRead_pc (s : State) (p : Byte) : ((s.portRead p).2).pc = s.pc := by
  simp [State.portRead]
@[simp] theorem State.portRead_inte (s : State) (p : Byte) : ((s.portRead p).2).inte = s.inte := by
  simp [State.portRead]
@[simp] theorem State.portRead_halted (s : State) (p : Byte) : ((s.portRead p).2).halted = s.halted := by
  simp [State.portRead]
@[simp] theorem State.portRead_intInhibit (s : State) (p : Byte) : ((s.portRead p).2).intInhibit = s.intInhibit := by
  simp [State.portRead]
@[simp] theorem State.portRead_mem (s : State) (p : Byte) : ((s.portRead p).2).mem = s.mem := by
  simp [State.portRead]
@[simp] theorem State.portRead_cfg (s : State) (p : Byte) : ((s.portRead p).2).cfg = s.cfg := by
  simp [State.portRead]

/-- A port read records its answer. -/
theorem State.portRead_plat (s : State) (p : Byte) : (s.portRead p).2.plat =
    { s.draw.2.plat with trace := s.draw.2.plat.trace ++ [.portRead p (s.portRead p).1] } := rfl

/-! ### Memory accesses -/

@[simp] theorem State.memRead_regs (s : State) (a : Word) : ((s.memRead a).2).regs = s.regs := by
  unfold State.memRead; split <;> simp
@[simp] theorem State.memRead_flags (s : State) (a : Word) : ((s.memRead a).2).flags = s.flags := by
  unfold State.memRead; split <;> simp
@[simp] theorem State.memRead_sp (s : State) (a : Word) : ((s.memRead a).2).sp = s.sp := by
  unfold State.memRead; split <;> simp
@[simp] theorem State.memRead_pc (s : State) (a : Word) : ((s.memRead a).2).pc = s.pc := by
  unfold State.memRead; split <;> simp
@[simp] theorem State.memRead_inte (s : State) (a : Word) : ((s.memRead a).2).inte = s.inte := by
  unfold State.memRead; split <;> simp
@[simp] theorem State.memRead_halted (s : State) (a : Word) : ((s.memRead a).2).halted = s.halted := by
  unfold State.memRead; split <;> simp
@[simp] theorem State.memRead_intInhibit (s : State) (a : Word) : ((s.memRead a).2).intInhibit = s.intInhibit := by
  unfold State.memRead; split <;> simp
@[simp] theorem State.memRead_mem (s : State) (a : Word) : ((s.memRead a).2).mem = s.mem := by
  unfold State.memRead; split <;> simp
@[simp] theorem State.memRead_cfg (s : State) (a : Word) : ((s.memRead a).2).cfg = s.cfg := by
  unfold State.memRead; split <;> simp

@[simp] theorem State.memRead_memClass (s : State) (a b : Word) : (s.memRead a).2.memClass b = s.memClass b := by
  simp [State.memClass]

/-- A read of RAM or ROM gives the byte of memory and changes nothing. -/
theorem State.memRead_plain (s : State) (a : Word) (h : s.memClass a = .ram ∨ s.memClass a = .rom) :
    s.memRead a = (s.mem.read a, s) := by
  rcases h with h | h <;> simp [State.memRead, h]

/-- A read of a device is a draw, recorded. -/
theorem State.memRead_device (s : State) (a : Word) (h : s.memClass a = .device) :
    s.memRead a = (s.draw.1, s.draw.2.record (.deviceRead a s.draw.1)) := by
  simp [State.memRead, h]

/-- A read of an absent address is a draw. -/
theorem State.memRead_absent (s : State) (a : Word) (h : s.memClass a = .absent) : s.memRead a = s.draw := by
  simp [State.memRead, h]

/-- A read keeps the boundary script. -/
@[simp] theorem State.draw_boundary (s : State) : s.draw.2.plat.boundary = s.plat.boundary := by
  unfold State.draw; split <;> rfl

@[simp] theorem State.memRead_boundary (s : State) (a : Word) :
    (s.memRead a).2.plat.boundary = s.plat.boundary := by
  unfold State.memRead; split <;> simp

@[simp] theorem State.memWrite_regs (s : State) (a : Word) (v : Byte) : (s.memWrite a v).regs = s.regs := by
  unfold State.memWrite; split <;> rfl
@[simp] theorem State.memWrite_flags (s : State) (a : Word) (v : Byte) : (s.memWrite a v).flags = s.flags := by
  unfold State.memWrite; split <;> rfl
@[simp] theorem State.memWrite_sp (s : State) (a : Word) (v : Byte) : (s.memWrite a v).sp = s.sp := by
  unfold State.memWrite; split <;> rfl
@[simp] theorem State.memWrite_pc (s : State) (a : Word) (v : Byte) : (s.memWrite a v).pc = s.pc := by
  unfold State.memWrite; split <;> rfl
@[simp] theorem State.memWrite_inte (s : State) (a : Word) (v : Byte) : (s.memWrite a v).inte = s.inte := by
  unfold State.memWrite; split <;> rfl
@[simp] theorem State.memWrite_halted (s : State) (a : Word) (v : Byte) : (s.memWrite a v).halted = s.halted := by
  unfold State.memWrite; split <;> rfl
@[simp] theorem State.memWrite_intInhibit (s : State) (a : Word) (v : Byte) : (s.memWrite a v).intInhibit = s.intInhibit := by
  unfold State.memWrite; split <;> rfl
@[simp] theorem State.memWrite_cfg (s : State) (a : Word) (v : Byte) : (s.memWrite a v).cfg = s.cfg := by
  unfold State.memWrite; split <;> rfl

/-- What a write does to memory: RAM takes the byte, no other class does. -/
theorem State.memWrite_mem (s : State) (a : Word) (v : Byte) :
    (s.memWrite a v).mem = if s.memClass a = .ram then s.mem.write a v else s.mem := by
  unfold State.memWrite
  split <;> simp_all

/-- What a write does to the platform: a device is handed the byte, no other class tells it anything. -/
theorem State.memWrite_plat (s : State) (a : Word) (v : Byte) :
    (s.memWrite a v).plat = if s.memClass a = .device
      then { s.plat with trace := s.plat.trace ++ [.deviceWrite a v] } else s.plat := by
  unfold State.memWrite
  split <;> simp_all

@[simp] theorem State.memWrite_memClass (s : State) (a b : Word) (v : Byte) :
    (s.memWrite a v).memClass b = s.memClass b := by
  simp [State.memClass]

/-- A write of RAM. -/
theorem State.memWrite_ram (s : State) (a : Word) (v : Byte) (h : s.memClass a = .ram) :
    s.memWrite a v = { s with mem := s.mem.write a v } := by
  simp [State.memWrite, h]

/-- A write keeps the canonical form of memory. -/
theorem State.memWrite_wf {s : State} (a : Word) (v : Byte) (h : s.mem.wf = true) :
    (s.memWrite a v).mem.wf = true := by
  rw [State.memWrite_mem]
  split
  · exact Memory.wf_write a v h
  · exact h

/-- A write leaves every other address as it reads. -/
theorem State.memWrite_read_ne (s : State) {a b : Word} (v : Byte) (h : b ≠ a) :
    (s.memWrite a v).mem.read b = s.mem.read b := by
  rw [State.memWrite_mem]
  split
  · exact Memory.read_write_ne _ _ h
  · rfl

/-- An address that is not RAM reads as before after any write. -/
theorem State.memWrite_read_not_ram (s : State) (a b : Word) (v : Byte) (h : s.memClass b ≠ .ram) :
    (s.memWrite a v).mem.read b = s.mem.read b := by
  rw [State.memWrite_mem]
  split
  · next ha => exact Memory.read_write_ne _ _ (fun he => h (he ▸ ha))
  · rfl

/-! ### The stack -/

@[simp] theorem State.push_regs (s : State) (v : Word) : (s.push v).regs = s.regs := by
  simp [State.push]
@[simp] theorem State.push_flags (s : State) (v : Word) : (s.push v).flags = s.flags := by
  simp [State.push]
@[simp] theorem State.push_pc (s : State) (v : Word) : (s.push v).pc = s.pc := by
  simp [State.push]
@[simp] theorem State.push_inte (s : State) (v : Word) : (s.push v).inte = s.inte := by
  simp [State.push]
@[simp] theorem State.push_halted (s : State) (v : Word) : (s.push v).halted = s.halted := by
  simp [State.push]
@[simp] theorem State.push_intInhibit (s : State) (v : Word) : (s.push v).intInhibit = s.intInhibit := by
  simp [State.push]
@[simp] theorem State.push_cfg (s : State) (v : Word) : (s.push v).cfg = s.cfg := by
  simp [State.push]

@[simp] theorem State.push_sp (s : State) (v : Word) : (s.push v).sp = s.sp - 2 := rfl

theorem State.push_mem (s : State) (v : Word) :
    (s.push v).mem = ((s.memWrite (s.sp - 1) (hiByte v)).memWrite (s.sp - 2) (loByte v)).mem := rfl

theorem State.push_wf {s : State} (v : Word) (h : s.mem.wf = true) : (s.push v).mem.wf = true := by
  rw [State.push_mem]
  exact State.memWrite_wf _ _ (State.memWrite_wf _ _ h)

/-- A push leaves every byte but the two below `sp` as it reads. -/
theorem State.push_read_ne (s : State) (v b : Word) (h1 : b ≠ s.sp - 1) (h2 : b ≠ s.sp - 2) :
    (s.push v).mem.read b = s.mem.read b := by
  rw [State.push_mem, State.memWrite_read_ne _ _ h2, State.memWrite_read_ne _ _ h1]

theorem State.push_read_not_ram (s : State) (v b : Word) (h : s.memClass b ≠ .ram) :
    (s.push v).mem.read b = s.mem.read b := by
  rw [State.push_mem, State.memWrite_read_not_ram _ _ _ _ (by simpa using h),
    State.memWrite_read_not_ram _ _ _ _ h]

/-- The two addresses below `sp` are distinct. -/
theorem sub_one_ne_sub_two (a : Word) : a - 1 ≠ a - 2 := by bv_omega

/-- Over RAM a push puts the low byte at `sp - 2` and the high byte at `sp - 1`. -/
theorem State.push_read_ram (s : State) (v : Word) (h1 : s.memClass (s.sp - 1) = .ram)
    (h2 : s.memClass (s.sp - 2) = .ram) :
    (s.push v).mem.read (s.sp - 2) = loByte v ∧ (s.push v).mem.read (s.sp - 1) = hiByte v := by
  rw [State.push_mem, State.memWrite_mem, State.memWrite_mem, State.memWrite_memClass, if_pos h2, if_pos h1,
    Memory.read_write_same, Memory.read_write_ne _ _ (sub_one_ne_sub_two s.sp), Memory.read_write_same]
  exact ⟨rfl, rfl⟩

@[simp] theorem State.pop_regs (s : State) : (s.pop.2).regs = s.regs := by
  simp [State.pop]
@[simp] theorem State.pop_flags (s : State) : (s.pop.2).flags = s.flags := by
  simp [State.pop]
@[simp] theorem State.pop_pc (s : State) : (s.pop.2).pc = s.pc := by
  simp [State.pop]
@[simp] theorem State.pop_inte (s : State) : (s.pop.2).inte = s.inte := by
  simp [State.pop]
@[simp] theorem State.pop_halted (s : State) : (s.pop.2).halted = s.halted := by
  simp [State.pop]
@[simp] theorem State.pop_intInhibit (s : State) : (s.pop.2).intInhibit = s.intInhibit := by
  simp [State.pop]
@[simp] theorem State.pop_mem (s : State) : (s.pop.2).mem = s.mem := by
  simp [State.pop]
@[simp] theorem State.pop_cfg (s : State) : (s.pop.2).cfg = s.cfg := by
  simp [State.pop]

@[simp] theorem State.pop_sp (s : State) : s.pop.2.sp = s.sp + 2 := rfl

/-- A pop from RAM or ROM gives the two bytes at `sp`. -/
theorem State.pop_plain (s : State) (h0 : s.memClass s.sp = .ram ∨ s.memClass s.sp = .rom)
    (h1 : s.memClass (s.sp + 1) = .ram ∨ s.memClass (s.sp + 1) = .rom) :
    s.pop = (wordOf (s.mem.read (s.sp + 1)) (s.mem.read s.sp), { s with sp := s.sp + 2 }) := by
  simp only [State.pop, State.memRead_plain s s.sp h0, State.memRead_plain s (s.sp + 1) h1]

/-! ### Calls, the return, the acceptance of an interrupt -/

/-- A call is a push and a jump. -/
theorem State.call_eq (s : State) (target ret : Word) : s.call target ret = (s.push ret).jump target := rfl

@[simp] theorem State.call_regs (s : State) (target ret : Word) : (s.call target ret).regs = s.regs := by
  simp [State.call_eq]
@[simp] theorem State.call_flags (s : State) (target ret : Word) : (s.call target ret).flags = s.flags := by
  simp [State.call_eq]
@[simp] theorem State.call_inte (s : State) (target ret : Word) : (s.call target ret).inte = s.inte := by
  simp [State.call_eq]
@[simp] theorem State.call_halted (s : State) (target ret : Word) : (s.call target ret).halted = s.halted := by
  simp [State.call_eq]
@[simp] theorem State.call_cfg (s : State) (target ret : Word) : (s.call target ret).cfg = s.cfg := by
  simp [State.call_eq]

@[simp] theorem State.call_sp (s : State) (target ret : Word) : (s.call target ret).sp = s.sp - 2 := rfl
@[simp] theorem State.call_pc (s : State) (target ret : Word) : (s.call target ret).pc = target := rfl
@[simp] theorem State.call_intInhibit (s : State) (target ret : Word) :
    (s.call target ret).intInhibit = false := rfl
@[simp] theorem State.call_mem (s : State) (target ret : Word) : (s.call target ret).mem = (s.push ret).mem := rfl

@[simp] theorem State.ret_regs (s : State) : (s.ret).regs = s.regs := by
  simp [State.ret]
@[simp] theorem State.ret_flags (s : State) : (s.ret).flags = s.flags := by
  simp [State.ret]
@[simp] theorem State.ret_inte (s : State) : (s.ret).inte = s.inte := by
  simp [State.ret]
@[simp] theorem State.ret_halted (s : State) : (s.ret).halted = s.halted := by
  simp [State.ret]
@[simp] theorem State.ret_mem (s : State) : (s.ret).mem = s.mem := by
  simp [State.ret]
@[simp] theorem State.ret_cfg (s : State) : (s.ret).cfg = s.cfg := by
  simp [State.ret]

@[simp] theorem State.ret_sp (s : State) : s.ret.sp = s.sp + 2 := rfl
@[simp] theorem State.ret_pc (s : State) : s.ret.pc = s.pop.1 := rfl
@[simp] theorem State.ret_intInhibit (s : State) : s.ret.intInhibit = false := rfl

/-- An accepted request that gives a next state is a call of an admitted target with interrupts disabled. -/
theorem acceptInterrupt_next {q : Supply} {s t : State} (h : acceptInterrupt q s = .next t) :
    ∃ target, suppliedTarget (decodeOp q.op q.b2 q.b3) = some target ∧
      t = { s with inte := false, halted := false }.call target s.pc := by
  simp only [acceptInterrupt] at h
  split at h
  · next target ht => exact ⟨target, ht, by simpa using h.symm⟩
  · cases h

/-! ### 8-bit operands -/

@[simp] theorem State.readOperand_regs (s : State) (o : Operand8) : ((s.readOperand o).2).regs = s.regs := by
  cases o <;> simp [State.readOperand]
@[simp] theorem State.readOperand_flags (s : State) (o : Operand8) : ((s.readOperand o).2).flags = s.flags := by
  cases o <;> simp [State.readOperand]
@[simp] theorem State.readOperand_sp (s : State) (o : Operand8) : ((s.readOperand o).2).sp = s.sp := by
  cases o <;> simp [State.readOperand]
@[simp] theorem State.readOperand_pc (s : State) (o : Operand8) : ((s.readOperand o).2).pc = s.pc := by
  cases o <;> simp [State.readOperand]
@[simp] theorem State.readOperand_inte (s : State) (o : Operand8) : ((s.readOperand o).2).inte = s.inte := by
  cases o <;> simp [State.readOperand]
@[simp] theorem State.readOperand_halted (s : State) (o : Operand8) : ((s.readOperand o).2).halted = s.halted := by
  cases o <;> simp [State.readOperand]
@[simp] theorem State.readOperand_intInhibit (s : State) (o : Operand8) : ((s.readOperand o).2).intInhibit = s.intInhibit := by
  cases o <;> simp [State.readOperand]
@[simp] theorem State.readOperand_mem (s : State) (o : Operand8) : ((s.readOperand o).2).mem = s.mem := by
  cases o <;> simp [State.readOperand]
@[simp] theorem State.readOperand_cfg (s : State) (o : Operand8) : ((s.readOperand o).2).cfg = s.cfg := by
  cases o <;> simp [State.readOperand]

@[simp] theorem State.writeOperand_flags (s : State) (o : Operand8) (v : Byte) : (s.writeOperand o v).flags = s.flags := by
  cases o <;> simp [State.writeOperand]
@[simp] theorem State.writeOperand_sp (s : State) (o : Operand8) (v : Byte) : (s.writeOperand o v).sp = s.sp := by
  cases o <;> simp [State.writeOperand]
@[simp] theorem State.writeOperand_pc (s : State) (o : Operand8) (v : Byte) : (s.writeOperand o v).pc = s.pc := by
  cases o <;> simp [State.writeOperand]
@[simp] theorem State.writeOperand_inte (s : State) (o : Operand8) (v : Byte) : (s.writeOperand o v).inte = s.inte := by
  cases o <;> simp [State.writeOperand]
@[simp] theorem State.writeOperand_halted (s : State) (o : Operand8) (v : Byte) : (s.writeOperand o v).halted = s.halted := by
  cases o <;> simp [State.writeOperand]
@[simp] theorem State.writeOperand_intInhibit (s : State) (o : Operand8) (v : Byte) : (s.writeOperand o v).intInhibit = s.intInhibit := by
  cases o <;> simp [State.writeOperand]
@[simp] theorem State.writeOperand_cfg (s : State) (o : Operand8) (v : Byte) : (s.writeOperand o v).cfg = s.cfg := by
  cases o <;> simp [State.writeOperand]

theorem State.writeOperand_wf {s : State} (o : Operand8) (v : Byte) (h : s.mem.wf = true) :
    (s.writeOperand o v).mem.wf = true := by
  cases o with
  | reg r => exact h
  | m => exact State.memWrite_wf _ _ h

/-! ### The shared operations of the families: what their next states are -/

theorem altOpcode_next {op : Byte} {s t : State} {r : Result} (h : altOpcode op s r = .next t) :
    s.cfg.altOpcodePolicy = .execute ∧ r = .next t := by
  simp only [altOpcode] at h
  split at h
  · next hp => exact ⟨hp, h⟩
  · cases h

theorem noOperation_next {s t : State} (h : noOperation s = .next t) : t = s.advance 1 := by
  simpa [noOperation] using h.symm

theorem callNext_next {target : Word} {len : Nat} {s t : State} (h : callNext target len s = .next t) :
    t = s.call target (s.pc + BitVec.ofNat 16 len) := by
  simpa [callNext] using h.symm

theorem jumpIf_next {cc : Cond} {a16 : Word} {s t : State} (h : jumpIf cc a16 s = .next t) :
    (s.flags.cond cc = true ∧ t = s.jump a16) ∨ (s.flags.cond cc = false ∧ t = s.advance 3) := by
  unfold jumpIf at h
  split at h
  · next hc => exact .inl ⟨hc, by simpa using h.symm⟩
  · next hc => exact .inr ⟨by simpa using hc, by simpa using h.symm⟩

theorem callIf_next {cc : Cond} {a16 : Word} {s t : State} (h : callIf cc a16 s = .next t) :
    (s.flags.cond cc = true ∧ t = s.call a16 (s.pc + 3)) ∨ (s.flags.cond cc = false ∧ t = s.advance 3) := by
  unfold callIf at h
  split at h
  · next hc => exact .inl ⟨hc, callNext_next h⟩
  · next hc => exact .inr ⟨by simpa using hc, by simpa using h.symm⟩

theorem returnIf_next {cc : Cond} {s t : State} (h : returnIf cc s = .next t) :
    (s.flags.cond cc = true ∧ t = s.ret) ∨ (s.flags.cond cc = false ∧ t = s.advance 1) := by
  unfold returnIf at h
  split at h
  · next hc => exact .inl ⟨hc, by simpa using h.symm⟩
  · next hc => exact .inr ⟨by simpa using hc, by simpa using h.symm⟩

theorem move_next {dst src : Operand8} {s t : State} (h : move dst src s = .next t) :
    t = ((s.readOperand src).2.writeOperand dst (s.readOperand src).1).advance 1 := by
  simpa [move] using h.symm

theorem moveImm_next {dst : Operand8} {d8 : Byte} {s t : State} (h : moveImm dst d8 s = .next t) :
    t = (s.writeOperand dst d8).advance 2 := by
  simpa [moveImm] using h.symm

theorem loadA_next {addr : Word} {len : Nat} {s t : State} (h : loadA addr len s = .next t) :
    t = ((s.memRead addr).2.setReg .a (s.memRead addr).1).advance len := by
  simpa [loadA] using h.symm

theorem storeA_next {addr : Word} {len : Nat} {s t : State} (h : storeA addr len s = .next t) :
    t = (s.memWrite addr s.regs.a).advance len := by
  simpa [storeA] using h.symm

theorem loadHL_next {a16 : Word} {s t : State} (h : loadHL a16 s = .next t) :
    t = ((((s.memRead a16).2.memRead (a16 + 1)).2.setReg .l (s.memRead a16).1).setReg .h
      ((s.memRead a16).2.memRead (a16 + 1)).1).advance 3 := by
  simpa [loadHL] using h.symm

theorem pushValue_next {v : Word} {s t : State} (h : pushValue v s = .next t) : t = (s.push v).advance 1 := by
  simpa [pushValue] using h.symm

theorem popPair_next {p : Pair} {s t : State} (h : popPair p s = .next t) :
    t = (s.pop.2.setPair p s.pop.1).advance 1 := by
  simpa [popPair] using h.symm

/-- `XTHL` writes H and L at `sp + 1` and `sp` and loads them from there; nothing else but the platform changes. -/
theorem exchangeTop_next {s t : State} (h : exchangeTop s = .next t) :
    let lo := s.memRead s.sp
    let hi := lo.2.memRead (s.sp + 1)
    t = (((((hi.2.memWrite (s.sp + 1) s.regs.h).memWrite s.sp s.regs.l).setReg .h hi.1).setReg .l lo.1).advance
      1) := by
  simpa [exchangeTop] using h.symm

theorem accumulate_next {op : AluOp} {b : Byte} {len : Nat} {s t : State} (h : accumulate op b len s = .next t) :
    t = { s with
          flags := (aluOp op s.cfg.andAuxCarry s.regs.a b s.flags.c).2
          regs := if writesA op then s.regs.set .a (aluOp op s.cfg.andAuxCarry s.regs.a b s.flags.c).1
            else s.regs }.advance len := by
  simpa [accumulate] using h.symm

theorem increment_next {o : Operand8} {s t : State} (h : increment o s = .next t) :
    t = { (s.readOperand o).2.writeOperand o ((s.readOperand o).1 + 1) with
          flags := incFlags s.flags ((s.readOperand o).1 + 1) }.advance 1 := by
  simpa [increment] using h.symm

theorem decrement_next {o : Operand8} {s t : State} (h : decrement o s = .next t) :
    t = { (s.readOperand o).2.writeOperand o ((s.readOperand o).1 - 1) with
          flags := decFlags s.flags ((s.readOperand o).1 - 1) }.advance 1 := by
  simpa [decrement] using h.symm

theorem rotate_next {r : Byte × Bool} {s t : State} (h : rotate r s = .next t) :
    t = ((s.setReg .a r.1).setCarry r.2).advance 1 := by
  simpa [rotate] using h.symm

theorem inxPair_next {p : Pair16} {s t : State} (h : inxPair p s = .next t) :
    t = (s.setPair16 p (s.pair16 p + 1)).advance 1 := by
  simpa [inxPair] using h.symm

theorem dcxPair_next {p : Pair16} {s t : State} (h : dcxPair p s = .next t) :
    t = (s.setPair16 p (s.pair16 p - 1)).advance 1 := by
  simpa [dcxPair] using h.symm

theorem dadPair_next {p : Pair16} {s t : State} (h : dadPair p s = .next t) :
    t = { s.setPair .hl (add16 (s.pair .hl) (s.pair16 p)).1 with
          flags := { s.flags with c := (add16 (s.pair .hl) (s.pair16 p)).2 } }.advance 1 := by
  simpa [dadPair] using h.symm

/-! ### What the flag computations keep -/

@[simp] theorem Flags.szp_a (f : Flags) (r : Byte) : (f.szp r).a = f.a := rfl
@[simp] theorem Flags.szp_c (f : Flags) (r : Byte) : (f.szp r).c = f.c := rfl
@[simp] theorem Flags.szp_s (f : Flags) (r : Byte) : (f.szp r).s = r.getLsbD 7 := rfl
@[simp] theorem Flags.szp_z (f : Flags) (r : Byte) : (f.szp r).z = (r == 0) := by
  simp only [Flags.szp]
@[simp] theorem Flags.szp_p (f : Flags) (r : Byte) : (f.szp r).p = parity8 r := by
  simp only [Flags.szp]
@[simp] theorem incFlags_c (f : Flags) (r : Byte) : (incFlags f r).c = f.c := rfl
@[simp] theorem decFlags_c (f : Flags) (r : Byte) : (decFlags f r).c = f.c := rfl

/-! ### Fetching -/

@[simp] theorem State.fetch_regs (s : State) : (s.fetch.2).regs = s.regs := by
  unfold State.fetch; dsimp only; generalize opLength (s.memRead s.pc).1 = n; rcases n with _ | _ | _ | n <;> simp
@[simp] theorem State.fetch_flags (s : State) : (s.fetch.2).flags = s.flags := by
  unfold State.fetch; dsimp only; generalize opLength (s.memRead s.pc).1 = n; rcases n with _ | _ | _ | n <;> simp
@[simp] theorem State.fetch_sp (s : State) : (s.fetch.2).sp = s.sp := by
  unfold State.fetch; dsimp only; generalize opLength (s.memRead s.pc).1 = n; rcases n with _ | _ | _ | n <;> simp
@[simp] theorem State.fetch_pc (s : State) : (s.fetch.2).pc = s.pc := by
  unfold State.fetch; dsimp only; generalize opLength (s.memRead s.pc).1 = n; rcases n with _ | _ | _ | n <;> simp
@[simp] theorem State.fetch_inte (s : State) : (s.fetch.2).inte = s.inte := by
  unfold State.fetch; dsimp only; generalize opLength (s.memRead s.pc).1 = n; rcases n with _ | _ | _ | n <;> simp
@[simp] theorem State.fetch_halted (s : State) : (s.fetch.2).halted = s.halted := by
  unfold State.fetch; dsimp only; generalize opLength (s.memRead s.pc).1 = n; rcases n with _ | _ | _ | n <;> simp
@[simp] theorem State.fetch_intInhibit (s : State) : (s.fetch.2).intInhibit = s.intInhibit := by
  unfold State.fetch; dsimp only; generalize opLength (s.memRead s.pc).1 = n; rcases n with _ | _ | _ | n <;> simp
@[simp] theorem State.fetch_mem (s : State) : (s.fetch.2).mem = s.mem := by
  unfold State.fetch; dsimp only; generalize opLength (s.memRead s.pc).1 = n; rcases n with _ | _ | _ | n <;> simp
@[simp] theorem State.fetch_cfg (s : State) : (s.fetch.2).cfg = s.cfg := by
  unfold State.fetch; dsimp only; generalize opLength (s.memRead s.pc).1 = n; rcases n with _ | _ | _ | n <;> simp

/-- A fetch keeps the boundary script. -/
@[simp] theorem State.fetch_boundary (s : State) : s.fetch.2.plat.boundary = s.plat.boundary := by
  unfold State.fetch; dsimp only; generalize opLength (s.memRead s.pc).1 = n; rcases n with _ | _ | _ | n <;> simp

end Sys2Proof.Machine
end

