-- ==== Sys2Proof/Tests/Slice0.lean ====
section
/-! SUPPORT. The model's own tests: decoding of every opcode, the well-formedness checks, single steps, and for every
statement with hypotheses a concrete state and operands that meet them. Expected values are those of 30_encoding.md
R88 and of the vectors V1 to V266 of 95_test_vectors.md, named at each test. -/

open Sys2Proof Sys2Proof.Machine

namespace Sys2Proof.Tests

/-! ### Decoding: the 16 rows of 30_encoding.md R88 -/

theorem test_decode_row_0 : ([
    [0x00], [0x01, 0x35, 0x80], [0x02], [0x03], [0x04], [0x05], [0x06, 0xA6], [0x07], [0x08], [0x09], [0x0A],
    [0x0B], [0x0C], [0x0D], [0x0E, 0xAE], [0x0F]] :
    List (List Byte)).map decode = [
    .ok (.nop, []), .ok (.lxiB 0x8035, []), .ok (.staxB, []), .ok (.inxB, []), .ok (.inrB, []), .ok (.dcrB, []),
    .ok (.mviB 0xA6, []), .ok (.rlc, []), .ok (.altNop08, []), .ok (.dadB, []), .ok (.ldaxB, []),
    .ok (.dcxB, []), .ok (.inrC, []), .ok (.dcrC, []), .ok (.mviC 0xAE, []), .ok (.rrc, [])] := rfl

theorem test_decode_row_1 : ([
    [0x10], [0x11, 0x35, 0x81], [0x12], [0x13], [0x14], [0x15], [0x16, 0xA6], [0x17], [0x18], [0x19], [0x1A],
    [0x1B], [0x1C], [0x1D], [0x1E, 0xAE], [0x1F]] :
    List (List Byte)).map decode = [
    .ok (.altNop10, []), .ok (.lxiD 0x8135, []), .ok (.staxD, []), .ok (.inxD, []), .ok (.inrD, []),
    .ok (.dcrD, []), .ok (.mviD 0xA6, []), .ok (.ral, []), .ok (.altNop18, []), .ok (.dadD, []),
    .ok (.ldaxD, []), .ok (.dcxD, []), .ok (.inrE, []), .ok (.dcrE, []), .ok (.mviE 0xAE, []), .ok (.rar, [])] := rfl

theorem test_decode_row_2 : ([
    [0x20], [0x21, 0x35, 0x82], [0x22, 0x36, 0x82], [0x23], [0x24], [0x25], [0x26, 0xA6], [0x27], [0x28],
    [0x29], [0x2A, 0x3E, 0x82], [0x2B], [0x2C], [0x2D], [0x2E, 0xAE], [0x2F]] :
    List (List Byte)).map decode = [
    .ok (.altNop20, []), .ok (.lxiH 0x8235, []), .ok (.shld 0x8236, []), .ok (.inxH, []), .ok (.inrH, []),
    .ok (.dcrH, []), .ok (.mviH 0xA6, []), .ok (.daa, []), .ok (.altNop28, []), .ok (.dadH, []),
    .ok (.lhld 0x823E, []), .ok (.dcxH, []), .ok (.inrL, []), .ok (.dcrL, []), .ok (.mviL 0xAE, []),
    .ok (.cma, [])] := rfl

theorem test_decode_row_3 : ([
    [0x30], [0x31, 0x35, 0x83], [0x32, 0x36, 0x83], [0x33], [0x34], [0x35], [0x36, 0xA6], [0x37], [0x38],
    [0x39], [0x3A, 0x3E, 0x83], [0x3B], [0x3C], [0x3D], [0x3E, 0xAE], [0x3F]] :
    List (List Byte)).map decode = [
    .ok (.altNop30, []), .ok (.lxiSp 0x8335, []), .ok (.sta 0x8336, []), .ok (.inxSp, []), .ok (.inrM, []),
    .ok (.dcrM, []), .ok (.mviM 0xA6, []), .ok (.stc, []), .ok (.altNop38, []), .ok (.dadSp, []),
    .ok (.lda 0x833E, []), .ok (.dcxSp, []), .ok (.inrA, []), .ok (.dcrA, []), .ok (.mviA 0xAE, []),
    .ok (.cmc, [])] := rfl

theorem test_decode_row_4 : ([
    [0x40], [0x41], [0x42], [0x43], [0x44], [0x45], [0x46], [0x47], [0x48], [0x49], [0x4A], [0x4B], [0x4C],
    [0x4D], [0x4E], [0x4F]] :
    List (List Byte)).map decode = [
    .ok (.movBB, []), .ok (.movBC, []), .ok (.movBD, []), .ok (.movBE, []), .ok (.movBH, []), .ok (.movBL, []),
    .ok (.movBM, []), .ok (.movBA, []), .ok (.movCB, []), .ok (.movCC, []), .ok (.movCD, []), .ok (.movCE, []),
    .ok (.movCH, []), .ok (.movCL, []), .ok (.movCM, []), .ok (.movCA, [])] := rfl

theorem test_decode_row_5 : ([
    [0x50], [0x51], [0x52], [0x53], [0x54], [0x55], [0x56], [0x57], [0x58], [0x59], [0x5A], [0x5B], [0x5C],
    [0x5D], [0x5E], [0x5F]] :
    List (List Byte)).map decode = [
    .ok (.movDB, []), .ok (.movDC, []), .ok (.movDD, []), .ok (.movDE, []), .ok (.movDH, []), .ok (.movDL, []),
    .ok (.movDM, []), .ok (.movDA, []), .ok (.movEB, []), .ok (.movEC, []), .ok (.movED, []), .ok (.movEE, []),
    .ok (.movEH, []), .ok (.movEL, []), .ok (.movEM, []), .ok (.movEA, [])] := rfl

theorem test_decode_row_6 : ([
    [0x60], [0x61], [0x62], [0x63], [0x64], [0x65], [0x66], [0x67], [0x68], [0x69], [0x6A], [0x6B], [0x6C],
    [0x6D], [0x6E], [0x6F]] :
    List (List Byte)).map decode = [
    .ok (.movHB, []), .ok (.movHC, []), .ok (.movHD, []), .ok (.movHE, []), .ok (.movHH, []), .ok (.movHL, []),
    .ok (.movHM, []), .ok (.movHA, []), .ok (.movLB, []), .ok (.movLC, []), .ok (.movLD, []), .ok (.movLE, []),
    .ok (.movLH, []), .ok (.movLL, []), .ok (.movLM, []), .ok (.movLA, [])] := rfl

theorem test_decode_row_7 : ([
    [0x70], [0x71], [0x72], [0x73], [0x74], [0x75], [0x76], [0x77], [0x78], [0x79], [0x7A], [0x7B], [0x7C],
    [0x7D], [0x7E], [0x7F]] :
    List (List Byte)).map decode = [
    .ok (.movMB, []), .ok (.movMC, []), .ok (.movMD, []), .ok (.movME, []), .ok (.movMH, []), .ok (.movML, []),
    .ok (.hlt, []), .ok (.movMA, []), .ok (.movAB, []), .ok (.movAC, []), .ok (.movAD, []), .ok (.movAE, []),
    .ok (.movAH, []), .ok (.movAL, []), .ok (.movAM, []), .ok (.movAA, [])] := rfl

theorem test_decode_row_8 : ([
    [0x80], [0x81], [0x82], [0x83], [0x84], [0x85], [0x86], [0x87], [0x88], [0x89], [0x8A], [0x8B], [0x8C],
    [0x8D], [0x8E], [0x8F]] :
    List (List Byte)).map decode = [
    .ok (.addB, []), .ok (.addC, []), .ok (.addD, []), .ok (.addE, []), .ok (.addH, []), .ok (.addL, []),
    .ok (.addM, []), .ok (.addA, []), .ok (.adcB, []), .ok (.adcC, []), .ok (.adcD, []), .ok (.adcE, []),
    .ok (.adcH, []), .ok (.adcL, []), .ok (.adcM, []), .ok (.adcA, [])] := rfl

theorem test_decode_row_9 : ([
    [0x90], [0x91], [0x92], [0x93], [0x94], [0x95], [0x96], [0x97], [0x98], [0x99], [0x9A], [0x9B], [0x9C],
    [0x9D], [0x9E], [0x9F]] :
    List (List Byte)).map decode = [
    .ok (.subB, []), .ok (.subC, []), .ok (.subD, []), .ok (.subE, []), .ok (.subH, []), .ok (.subL, []),
    .ok (.subM, []), .ok (.subA, []), .ok (.sbbB, []), .ok (.sbbC, []), .ok (.sbbD, []), .ok (.sbbE, []),
    .ok (.sbbH, []), .ok (.sbbL, []), .ok (.sbbM, []), .ok (.sbbA, [])] := rfl

theorem test_decode_row_A : ([
    [0xA0], [0xA1], [0xA2], [0xA3], [0xA4], [0xA5], [0xA6], [0xA7], [0xA8], [0xA9], [0xAA], [0xAB], [0xAC],
    [0xAD], [0xAE], [0xAF]] :
    List (List Byte)).map decode = [
    .ok (.anaB, []), .ok (.anaC, []), .ok (.anaD, []), .ok (.anaE, []), .ok (.anaH, []), .ok (.anaL, []),
    .ok (.anaM, []), .ok (.anaA, []), .ok (.xraB, []), .ok (.xraC, []), .ok (.xraD, []), .ok (.xraE, []),
    .ok (.xraH, []), .ok (.xraL, []), .ok (.xraM, []), .ok (.xraA, [])] := rfl

theorem test_decode_row_B : ([
    [0xB0], [0xB1], [0xB2], [0xB3], [0xB4], [0xB5], [0xB6], [0xB7], [0xB8], [0xB9], [0xBA], [0xBB], [0xBC],
    [0xBD], [0xBE], [0xBF]] :
    List (List Byte)).map decode = [
    .ok (.oraB, []), .ok (.oraC, []), .ok (.oraD, []), .ok (.oraE, []), .ok (.oraH, []), .ok (.oraL, []),
    .ok (.oraM, []), .ok (.oraA, []), .ok (.cmpB, []), .ok (.cmpC, []), .ok (.cmpD, []), .ok (.cmpE, []),
    .ok (.cmpH, []), .ok (.cmpL, []), .ok (.cmpM, []), .ok (.cmpA, [])] := rfl

theorem test_decode_row_C : ([
    [0xC0], [0xC1], [0xC2, 0x36, 0x8C], [0xC3, 0x37, 0x8C], [0xC4, 0x38, 0x8C], [0xC5], [0xC6, 0xA6], [0xC7],
    [0xC8], [0xC9], [0xCA, 0x3E, 0x8C], [0xCB, 0x3F, 0x8C], [0xCC, 0x40, 0x8C], [0xCD, 0x41, 0x8C],
    [0xCE, 0xAE], [0xCF]] :
    List (List Byte)).map decode = [
    .ok (.rnz, []), .ok (.popB, []), .ok (.jnz 0x8C36, []), .ok (.jmp 0x8C37, []), .ok (.cnz 0x8C38, []),
    .ok (.pushB, []), .ok (.adi 0xA6, []), .ok (.rst0, []), .ok (.rz, []), .ok (.ret, []), .ok (.jz 0x8C3E, []),
    .ok (.altJmpCB 0x8C3F, []), .ok (.cz 0x8C40, []), .ok (.call 0x8C41, []), .ok (.aci 0xAE, []),
    .ok (.rst1, [])] := rfl

theorem test_decode_row_D : ([
    [0xD0], [0xD1], [0xD2, 0x36, 0x8D], [0xD3, 0xA3], [0xD4, 0x38, 0x8D], [0xD5], [0xD6, 0xA6], [0xD7], [0xD8],
    [0xD9], [0xDA, 0x3E, 0x8D], [0xDB, 0xAB], [0xDC, 0x40, 0x8D], [0xDD, 0x41, 0x8D], [0xDE, 0xAE], [0xDF]] :
    List (List Byte)).map decode = [
    .ok (.rnc, []), .ok (.popD, []), .ok (.jnc 0x8D36, []), .ok (.outPort 0xA3, []), .ok (.cnc 0x8D38, []),
    .ok (.pushD, []), .ok (.sui 0xA6, []), .ok (.rst2, []), .ok (.rc, []), .ok (.altRetD9, []),
    .ok (.jc 0x8D3E, []), .ok (.inPort 0xAB, []), .ok (.cc 0x8D40, []), .ok (.altCallDD 0x8D41, []),
    .ok (.sbi 0xAE, []), .ok (.rst3, [])] := rfl

theorem test_decode_row_E : ([
    [0xE0], [0xE1], [0xE2, 0x36, 0x8E], [0xE3], [0xE4, 0x38, 0x8E], [0xE5], [0xE6, 0xA6], [0xE7], [0xE8],
    [0xE9], [0xEA, 0x3E, 0x8E], [0xEB], [0xEC, 0x40, 0x8E], [0xED, 0x41, 0x8E], [0xEE, 0xAE], [0xEF]] :
    List (List Byte)).map decode = [
    .ok (.rpo, []), .ok (.popH, []), .ok (.jpo 0x8E36, []), .ok (.xthl, []), .ok (.cpo 0x8E38, []),
    .ok (.pushH, []), .ok (.ani 0xA6, []), .ok (.rst4, []), .ok (.rpe, []), .ok (.pchl, []),
    .ok (.jpe 0x8E3E, []), .ok (.xchg, []), .ok (.cpe 0x8E40, []), .ok (.altCallED 0x8E41, []),
    .ok (.xri 0xAE, []), .ok (.rst5, [])] := rfl

theorem test_decode_row_F : ([
    [0xF0], [0xF1], [0xF2, 0x36, 0x8F], [0xF3], [0xF4, 0x38, 0x8F], [0xF5], [0xF6, 0xA6], [0xF7], [0xF8],
    [0xF9], [0xFA, 0x3E, 0x8F], [0xFB], [0xFC, 0x40, 0x8F], [0xFD, 0x41, 0x8F], [0xFE, 0xAE], [0xFF]] :
    List (List Byte)).map decode = [
    .ok (.rp, []), .ok (.popPsw, []), .ok (.jp 0x8F36, []), .ok (.di, []), .ok (.cp 0x8F38, []),
    .ok (.pushPsw, []), .ok (.ori 0xA6, []), .ok (.rst6, []), .ok (.rm, []), .ok (.sphl, []),
    .ok (.jm 0x8F3E, []), .ok (.ei, []), .ok (.cm 0x8F40, []), .ok (.altCallFD 0x8F41, []), .ok (.cpi 0xAE, []),
    .ok (.rst7, [])] := rfl

/-- 20_memory.md R52: the second byte is the low byte of the operand; in a table word (log 15) bit 0 is bit 0 of the
first byte. -/
theorem test_tableWords : decodeTableWord 24 0xABCD21 = some (.lxiH 0xABCD) ∧
    decodeTableWord 16 0x10DB = some (.inPort 0x10) ∧ decodeTableWord 8 0x76 = some .hlt := ⟨rfl, rfl, rfl⟩

/-! ### What is refused by name -/

theorem test_decode_empty : decode [] = .error .noOpcode := rfl
theorem test_decode_short : decode [0xC3, 0x34] = .error (.missingOperand 0xC3) := rfl
theorem test_wellFormed_region_inside :
    Region.WellFormed { base := 0xFF00, size := 0x100, cls := .rom } = true := by decide
theorem test_wellFormed_region_beyond :
    Region.WellFormed { base := 0xFF00, size := 0x101, cls := .rom } = false := by decide
theorem test_wellFormed_region_empty :
    Region.WellFormed { base := 0x2000, size := 0, cls := .absent } = false := by decide
theorem test_wellFormed_config :
    Config.WellFormed { Config.default with memMap := [{ base := 0, size := 0x10001, cls := .ram }] } = false ∧
    Config.WellFormed Config.default = true := by decide

/-! ### Single steps (95_test_vectors.md, the vector of the name) -/

/-- All registers 0. -/
def blank : Regs := State.reset.regs

/-- The state after one step. -/
def after (s : State) : Option State :=
  match step s with
  | .next t => some t
  | .fault _ => none
  | .refused _ => none

/-- The state after one step with the given bytes at `pc`. -/
def run (pc : Word) (code : List Byte) (s : State) : Option State :=
  after { s with pc := pc, mem := s.mem.load pc code }

theorem test_nop_v1 : (run 0x0100 [0x00] State.reset).map (fun t => (t.pc)) = some (0x0101) := by decide
theorem test_altNop08_v3 : (run 0x0100 [0x08] State.reset).map (fun t => (t.pc)) = some (0x0101) := by decide
theorem test_hlt_v5 : (run 0x0010 [0x76] State.reset).map
    (fun t => (t.pc, t.halted)) = some (0x0011, true) := by decide
theorem test_di_v7 : (run 0x0200 [0xF3] { State.reset with inte := true }).map
    (fun t => (t.pc, t.inte)) = some (0x0201, false) := by decide
theorem test_ei_v9 : (run 0x0300 [0xFB] State.reset).map
    (fun t => (t.pc, t.inte, t.intInhibit)) = some (0x0301, true, true) := by decide
theorem test_nop_v11 : (run 0x0301 [0x00] { State.reset with inte := true, intInhibit := true }).map
    (fun t => (t.pc, t.intInhibit)) = some (0x0302, false) := by decide
theorem test_inPort_v12 :
    (run 0x0400 [0xDB, 0x10] { State.reset with
      regs := { blank with a := 0x00 }, flags := Flags.ofByte 0xD7, plat := { State.reset.plat with answers := [0x5A] } }).map
    (fun t => (t.regs.a, t.pc, t.flags.toByte, t.plat.trace)) =
      some (0x5A, 0x0402, 0xD7, [.portRead 0x10 0x5A]) := by decide
theorem test_outPort_v14 : (run 0x0500 [0xD3, 0x01] { State.reset with regs := { blank with a := 0x41 } }).map
    (fun t => (t.pc, t.plat.trace)) = some (0x0502, [.portWrite 0x01 0x41]) := by decide
theorem test_jmp_v16 : (run 0x0000 [0xC3, 0x34, 0x12] State.reset).map (fun t => (t.pc)) = some (0x1234) := by decide
theorem test_altJmpCB_v17 : (run 0x0100 [0xCB, 0x00, 0x20] State.reset).map
    (fun t => (t.pc)) = some (0x2000) := by decide
theorem test_jmp_v18 : (run 0xFFFE [0xC3, 0x00, 0x01] State.reset).map (fun t => (t.pc)) = some (0x0100) := by decide
theorem test_jnz_v20 : (run 0x0100 [0xC2, 0x00, 0x30] { State.reset with flags := Flags.ofByte 0x42 }).map
    (fun t => (t.pc)) = some (0x0103) := by decide
theorem test_jz_v21 : (run 0x0100 [0xCA, 0x00, 0x30] { State.reset with flags := Flags.ofByte 0x42 }).map
    (fun t => (t.pc)) = some (0x3000) := by decide
theorem test_jnc_v24 : (run 0x0100 [0xD2, 0x00, 0x30] { State.reset with flags := Flags.ofByte 0x03 }).map
    (fun t => (t.pc)) = some (0x0103) := by decide
theorem test_jc_v25 : (run 0x0100 [0xDA, 0x00, 0x30] { State.reset with flags := Flags.ofByte 0x03 }).map
    (fun t => (t.pc)) = some (0x3000) := by decide
theorem test_jpo_v28 : (run 0x0100 [0xE2, 0x00, 0x30] { State.reset with flags := Flags.ofByte 0x06 }).map
    (fun t => (t.pc)) = some (0x0103) := by decide
theorem test_jpe_v29 : (run 0x0100 [0xEA, 0x00, 0x30] { State.reset with flags := Flags.ofByte 0x06 }).map
    (fun t => (t.pc)) = some (0x3000) := by decide
theorem test_jp_v32 : (run 0x0100 [0xF2, 0x00, 0x30] { State.reset with flags := Flags.ofByte 0x82 }).map
    (fun t => (t.pc)) = some (0x0103) := by decide
theorem test_jm_v33 : (run 0x0100 [0xFA, 0x00, 0x30] { State.reset with flags := Flags.ofByte 0x82 }).map
    (fun t => (t.pc)) = some (0x3000) := by decide
theorem test_altCallDD_v36 : (run 0x0100 [0xDD, 0x00, 0x10] { State.reset with sp := 0x2400 }).map
    (fun t => (t.sp, t.pc, t.mem.read 0x23FF, t.mem.read 0x23FE)) = some (0x23FE, 0x1000, 0x01, 0x03) := by decide
theorem test_altCallED_v37 : (run 0x0100 [0xED, 0x00, 0x10] { State.reset with sp := 0x2400 }).map
    (fun t => (t.sp, t.pc, t.mem.read 0x23FF, t.mem.read 0x23FE)) = some (0x23FE, 0x1000, 0x01, 0x03) := by decide
theorem test_altCallFD_v38 : (run 0x0100 [0xFD, 0x00, 0x10] { State.reset with sp := 0x2400 }).map
    (fun t => (t.sp, t.pc, t.mem.read 0x23FF, t.mem.read 0x23FE)) = some (0x23FE, 0x1000, 0x01, 0x03) := by decide
theorem test_call_v39 : (run 0x0100 [0xCD, 0x00, 0x10] { State.reset with sp := 0x0001 }).map
    (fun t => (t.sp, t.pc, t.mem.read 0x0000, t.mem.read 0xFFFF)) = some (0xFFFF, 0x1000, 0x01, 0x03) := by decide
theorem test_call_v40 : (run 0xFFFE [0xCD, 0x00, 0x10] { State.reset with sp := 0x2400 }).map
    (fun t => (t.sp, t.pc, t.mem.read 0x23FF, t.mem.read 0x23FE)) = some (0x23FE, 0x1000, 0x00, 0x01) := by decide
theorem test_cnz_v42 :
    (run 0x0100 [0xC4, 0x00, 0x10] { State.reset with sp := 0x2400, flags := Flags.ofByte 0x42 }).map
    (fun t => (t.pc)) = some (0x0103) := by decide
theorem test_cz_v43 :
    (run 0x0100 [0xCC, 0x00, 0x10] { State.reset with sp := 0x2400, flags := Flags.ofByte 0x42 }).map
    (fun t => (t.sp, t.pc, t.mem.read 0x23FF, t.mem.read 0x23FE)) = some (0x23FE, 0x1000, 0x01, 0x03) := by decide
theorem test_cnc_v46 :
    (run 0x0100 [0xD4, 0x00, 0x10] { State.reset with sp := 0x2400, flags := Flags.ofByte 0x03 }).map
    (fun t => (t.pc)) = some (0x0103) := by decide
theorem test_cc_v47 :
    (run 0x0100 [0xDC, 0x00, 0x10] { State.reset with sp := 0x2400, flags := Flags.ofByte 0x03 }).map
    (fun t => (t.sp, t.pc, t.mem.read 0x23FF, t.mem.read 0x23FE)) = some (0x23FE, 0x1000, 0x01, 0x03) := by decide
theorem test_cpo_v50 :
    (run 0x0100 [0xE4, 0x00, 0x10] { State.reset with sp := 0x2400, flags := Flags.ofByte 0x06 }).map
    (fun t => (t.pc)) = some (0x0103) := by decide
theorem test_cpe_v51 :
    (run 0x0100 [0xEC, 0x00, 0x10] { State.reset with sp := 0x2400, flags := Flags.ofByte 0x06 }).map
    (fun t => (t.sp, t.pc, t.mem.read 0x23FF, t.mem.read 0x23FE)) = some (0x23FE, 0x1000, 0x01, 0x03) := by decide
theorem test_cp_v54 :
    (run 0x0100 [0xF4, 0x00, 0x10] { State.reset with sp := 0x2400, flags := Flags.ofByte 0x82 }).map
    (fun t => (t.pc)) = some (0x0103) := by decide
theorem test_cm_v55 :
    (run 0x0100 [0xFC, 0x00, 0x10] { State.reset with sp := 0x2400, flags := Flags.ofByte 0x82 }).map
    (fun t => (t.sp, t.pc, t.mem.read 0x23FF, t.mem.read 0x23FE)) = some (0x23FE, 0x1000, 0x01, 0x03) := by decide
theorem test_ret_v57 :
    (run 0x1005 [0xC9] { State.reset with sp := 0x23FE, mem := [(0x23FE, 0x03), (0x23FF, 0x01)] }).map
    (fun t => (t.sp, t.pc)) = some (0x2400, 0x0103) := by decide
theorem test_altRetD9_v58 :
    (run 0x1005 [0xD9] { State.reset with sp := 0x23FE, mem := [(0x23FE, 0x03), (0x23FF, 0x01)] }).map
    (fun t => (t.sp, t.pc)) = some (0x2400, 0x0103) := by decide
theorem test_ret_v59 :
    (run 0x1005 [0xC9] { State.reset with sp := 0xFFFF, mem := [(0x0000, 0x56), (0xFFFF, 0x78)] }).map
    (fun t => (t.sp, t.pc)) = some (0x0001, 0x5678) := by decide
theorem test_rnz_v61 :
    (run 0x1005 [0xC0] { State.reset with
      sp := 0x23FE, flags := Flags.ofByte 0x42, mem := [(0x23FE, 0x03), (0x23FF, 0x01)] }).map
    (fun t => (t.pc)) = some (0x1006) := by decide
theorem test_rz_v62 :
    (run 0x1005 [0xC8] { State.reset with
      sp := 0x23FE, flags := Flags.ofByte 0x42, mem := [(0x23FE, 0x03), (0x23FF, 0x01)] }).map
    (fun t => (t.sp, t.pc)) = some (0x2400, 0x0103) := by decide
theorem test_rnc_v65 :
    (run 0x1005 [0xD0] { State.reset with
      sp := 0x23FE, flags := Flags.ofByte 0x03, mem := [(0x23FE, 0x03), (0x23FF, 0x01)] }).map
    (fun t => (t.pc)) = some (0x1006) := by decide
theorem test_rc_v66 :
    (run 0x1005 [0xD8] { State.reset with
      sp := 0x23FE, flags := Flags.ofByte 0x03, mem := [(0x23FE, 0x03), (0x23FF, 0x01)] }).map
    (fun t => (t.sp, t.pc)) = some (0x2400, 0x0103) := by decide
theorem test_rpo_v69 :
    (run 0x1005 [0xE0] { State.reset with
      sp := 0x23FE, flags := Flags.ofByte 0x06, mem := [(0x23FE, 0x03), (0x23FF, 0x01)] }).map
    (fun t => (t.pc)) = some (0x1006) := by decide
theorem test_rpe_v70 :
    (run 0x1005 [0xE8] { State.reset with
      sp := 0x23FE, flags := Flags.ofByte 0x06, mem := [(0x23FE, 0x03), (0x23FF, 0x01)] }).map
    (fun t => (t.sp, t.pc)) = some (0x2400, 0x0103) := by decide
theorem test_rp_v73 :
    (run 0x1005 [0xF0] { State.reset with
      sp := 0x23FE, flags := Flags.ofByte 0x82, mem := [(0x23FE, 0x03), (0x23FF, 0x01)] }).map
    (fun t => (t.pc)) = some (0x1006) := by decide
theorem test_rm_v74 :
    (run 0x1005 [0xF8] { State.reset with
      sp := 0x23FE, flags := Flags.ofByte 0x82, mem := [(0x23FE, 0x03), (0x23FF, 0x01)] }).map
    (fun t => (t.sp, t.pc)) = some (0x2400, 0x0103) := by decide
theorem test_pchl_v76 : (run 0x0100 [0xE9] { State.reset with regs := { blank with h := 0x41, l := 0x3E } }).map
    (fun t => (t.pc)) = some (0x413E) := by decide
theorem test_rst0_v77 : (run 0x0123 [0xC7] { State.reset with sp := 0x2400 }).map
    (fun t => (t.sp, t.pc, t.mem.read 0x23FF, t.mem.read 0x23FE)) = some (0x23FE, 0x0000, 0x01, 0x24) := by decide
theorem test_rst7_v84 : (run 0x0123 [0xFF] { State.reset with sp := 0x2400 }).map
    (fun t => (t.sp, t.pc, t.mem.read 0x23FF, t.mem.read 0x23FE)) = some (0x23FE, 0x0038, 0x01, 0x24) := by decide
theorem test_movBC_v85 : (run 0x0100 [0x41] { State.reset with regs := { blank with b := 0x00, c := 0x9A } }).map
    (fun t => (t.regs.b, t.pc)) = some (0x9A, 0x0101) := by decide
theorem test_movAM_v88 :
    (run 0x0100 [0x7E] { State.reset with regs := { blank with h := 0x20, l := 0x00 }, mem := [(0x2000, 0x7F)] }).map
    (fun t => (t.regs.a, t.pc)) = some (0x7F, 0x0101) := by decide
theorem test_movHM_v90 :
    (run 0x0100 [0x66] { State.reset with regs := { blank with h := 0x20, l := 0x00 }, mem := [(0x2000, 0x30)] }).map
    (fun t => (t.regs.h, t.pc)) = some (0x30, 0x0101) := by decide
theorem test_movMA_v91 :
    (run 0x0100 [0x77] { State.reset with regs := { blank with a := 0xC3, h := 0x20, l := 0x01 } }).map
    (fun t => (t.pc, t.mem.read 0x2001)) = some (0x0101, 0xC3) := by decide
theorem test_mviA_v94 : (run 0x0100 [0x3E, 0x42] State.reset).map
    (fun t => (t.regs.a, t.pc)) = some (0x42, 0x0102) := by decide
theorem test_mviM_v96 : (run 0x0100 [0x36, 0xFF] { State.reset with regs := { blank with h := 0x30, l := 0x00 } }).map
    (fun t => (t.pc, t.mem.read 0x3000)) = some (0x0102, 0xFF) := by decide
theorem test_ldaxB_v97 :
    (run 0x0100 [0x0A] { State.reset with regs := { blank with b := 0x40, c := 0x01 }, mem := [(0x4001, 0x22)] }).map
    (fun t => (t.regs.a, t.pc)) = some (0x22, 0x0101) := by decide
theorem test_ldaxD_v98 :
    (run 0x0100 [0x1A] { State.reset with regs := { blank with d := 0x40, e := 0x00 }, mem := [(0x4000, 0x11)] }).map
    (fun t => (t.regs.a, t.pc)) = some (0x11, 0x0101) := by decide
theorem test_staxB_v99 :
    (run 0x0100 [0x02] { State.reset with regs := { blank with a := 0x99, b := 0x41, c := 0x00 } }).map
    (fun t => (t.pc, t.mem.read 0x4100)) = some (0x0101, 0x99) := by decide
theorem test_lda_v101 : (run 0x0100 [0x3A, 0x00, 0x20] { State.reset with mem := [(0x2000, 0xAB)] }).map
    (fun t => (t.regs.a, t.pc)) = some (0xAB, 0x0103) := by decide
theorem test_sta_v103 : (run 0x0100 [0x32, 0x34, 0x12] { State.reset with regs := { blank with a := 0x5A } }).map
    (fun t => (t.pc, t.mem.read 0x1234)) = some (0x0103, 0x5A) := by decide
theorem test_sta_v104 : (run 0x0100 [0x32, 0x01, 0x01] { State.reset with regs := { blank with a := 0x00 } }).map
    (fun t => (t.pc, t.mem.read 0x0101)) = some (0x0103, 0x00) := by decide
theorem test_lxiB_v105 : (run 0x0100 [0x01, 0x34, 0x12] State.reset).map
    (fun t => (t.regs.b, t.regs.c, t.pc)) = some (0x12, 0x34, 0x0103) := by decide
theorem test_lxiSp_v108 : (run 0x0100 [0x31, 0x00, 0x24] State.reset).map
    (fun t => (t.sp, t.pc)) = some (0x2400, 0x0103) := by decide
theorem test_lhld_v109 :
    (run 0x0100 [0x2A, 0x00, 0x20] { State.reset with mem := [(0x2000, 0x34), (0x2001, 0x12)] }).map
    (fun t => (t.regs.h, t.regs.l, t.pc)) = some (0x12, 0x34, 0x0103) := by decide
theorem test_lhld_v110 :
    (run 0x0100 [0x2A, 0xFF, 0xFF] { State.reset with mem := [(0x0000, 0xDD), (0xFFFF, 0xEE)] }).map
    (fun t => (t.regs.h, t.regs.l, t.pc)) = some (0xDD, 0xEE, 0x0103) := by decide
theorem test_shld_v111 :
    (run 0x0100 [0x22, 0x10, 0x30] { State.reset with regs := { blank with h := 0xBE, l := 0xEF } }).map
    (fun t => (t.pc, t.mem.read 0x3010, t.mem.read 0x3011)) = some (0x0103, 0xEF, 0xBE) := by decide
theorem test_shld_v112 :
    (run 0x0100 [0x22, 0xFF, 0xFF] { State.reset with regs := { blank with h := 0x12, l := 0x34 } }).map
    (fun t => (t.pc, t.mem.read 0xFFFF, t.mem.read 0x0000)) = some (0x0103, 0x34, 0x12) := by decide
theorem test_pushB_v113 :
    (run 0x0100 [0xC5] { State.reset with sp := 0x2400, regs := { blank with b := 0x12, c := 0x34 } }).map
    (fun t => (t.sp, t.pc, t.mem.read 0x23FF, t.mem.read 0x23FE)) = some (0x23FE, 0x0101, 0x12, 0x34) := by decide
theorem test_pushPsw_v116 :
    (run 0x0100 [0xF5] { State.reset with
      sp := 0x2400, regs := { blank with a := 0x80 }, flags := Flags.ofByte 0x83 }).map
    (fun t => (t.sp, t.pc, t.mem.read 0x23FF, t.mem.read 0x23FE)) = some (0x23FE, 0x0101, 0x80, 0x83) := by decide
theorem test_pushPsw_v118 :
    (run 0x0100 [0xF5] { State.reset with
      sp := 0x2400, regs := { blank with a := 0xFF }, flags := Flags.ofByte 0xD7 }).map
    (fun t => (t.sp, t.pc, t.mem.read 0x23FF, t.mem.read 0x23FE)) = some (0x23FE, 0x0101, 0xFF, 0xD7) := by decide
theorem test_popB_v119 :
    (run 0x0100 [0xC1] { State.reset with sp := 0x23FE, mem := [(0x23FE, 0x34), (0x23FF, 0x12)] }).map
    (fun t => (t.regs.b, t.regs.c, t.sp, t.pc)) = some (0x12, 0x34, 0x2400, 0x0101) := by decide
theorem test_popPsw_v122 :
    (run 0x0100 [0xF1] { State.reset with sp := 0x23FE, mem := [(0x23FE, 0xFF), (0x23FF, 0x12)] }).map
    (fun t => (t.regs.a, t.sp, t.pc, t.flags.toByte)) = some (0x12, 0x2400, 0x0101, 0xD7) := by decide
theorem test_popPsw_v124 :
    (run 0x0100 [0xF1] { State.reset with
      sp := 0x23FE, flags := Flags.ofByte 0xD7, mem := [(0x23FE, 0x2A), (0x23FF, 0x56)] }).map
    (fun t => (t.regs.a, t.sp, t.pc, t.flags.toByte)) = some (0x56, 0x2400, 0x0101, 0x02) := by decide
theorem test_xchg_v126 :
    (run 0x0100 [0xEB] { State.reset with regs := { blank with d := 0x11, e := 0x22, h := 0x33, l := 0x44 } }).map
    (fun t => ((t.regs.d, t.regs.e), t.regs.h, t.regs.l, t.pc)) = some ((0x33, 0x44), 0x11, 0x22, 0x0101) := by decide
theorem test_xthl_v127 :
    (run 0x0100 [0xE3] { State.reset with
      sp := 0x2400, regs := { blank with h := 0x12, l := 0x34 }, mem := [(0x2400, 0x78), (0x2401, 0x56)] }).map
    (fun t => ((t.regs.h, t.regs.l), t.pc, t.mem.read 0x2401, t.mem.read 0x2400)) =
      some ((0x56, 0x78), 0x0101, 0x12, 0x34) := by decide
theorem test_xthl_v128 :
    (run 0x0100 [0xE3] { State.reset with
      sp := 0xFFFF, regs := { blank with h := 0x0B, l := 0x3C }, mem := [(0x0000, 0x0D), (0xFFFF, 0xF0)] }).map
    (fun t => ((t.regs.h, t.regs.l), t.pc, t.mem.read 0x0000, t.mem.read 0xFFFF)) =
      some ((0x0D, 0xF0), 0x0101, 0x0B, 0x3C) := by decide
theorem test_sphl_v129 : (run 0x0100 [0xF9] { State.reset with regs := { blank with h := 0x80, l := 0x00 } }).map
    (fun t => (t.sp, t.pc)) = some (0x8000, 0x0101) := by decide
theorem test_addD_v130 : (run 0x0100 [0x82] { State.reset with regs := { blank with a := 0x6C, d := 0x2E } }).map
    (fun t => (t.regs.a, t.pc, t.flags.toByte)) = some (0x9A, 0x0101, 0x96) := by decide
theorem test_adcC_v136 :
    (run 0x0100 [0x89] { State.reset with
      regs := { blank with a := 0x3D, c := 0x42 }, flags := Flags.ofByte 0x03 }).map
    (fun t => (t.regs.a, t.pc, t.flags.toByte)) = some (0x80, 0x0101, 0x92) := by decide
theorem test_subB_v141 : (run 0x0100 [0x90] { State.reset with regs := { blank with a := 0x3E, b := 0x0F } }).map
    (fun t => (t.regs.a, t.pc, t.flags.toByte)) = some (0x2F, 0x0101, 0x02) := by decide
theorem test_subC_v143 : (run 0x0100 [0x91] { State.reset with regs := { blank with a := 0x00, c := 0x01 } }).map
    (fun t => (t.regs.a, t.pc, t.flags.toByte)) = some (0xFF, 0x0101, 0x87) := by decide
theorem test_sbbL_v147 :
    (run 0x0100 [0x9D] { State.reset with
      regs := { blank with a := 0x04, l := 0x02 }, flags := Flags.ofByte 0x03 }).map
    (fun t => (t.regs.a, t.pc, t.flags.toByte)) = some (0x01, 0x0101, 0x12) := by decide
theorem test_sbbA_v149 :
    (run 0x0100 [0x9F] { State.reset with regs := { blank with a := 0x77 }, flags := Flags.ofByte 0x03 }).map
    (fun t => (t.regs.a, t.pc, t.flags.toByte)) = some (0xFF, 0x0101, 0x87) := by decide
theorem test_anaC_v153 :
    (run 0x0100 [0xA1] { State.reset with
      regs := { blank with a := 0xFC, c := 0x0F }, flags := Flags.ofByte 0x03 }).map
    (fun t => (t.regs.a, t.pc, t.flags.toByte)) = some (0x0C, 0x0101, 0x16) := by decide
theorem test_anaD_v157 : (run 0x0100 [0xA2] { State.reset with regs := { blank with a := 0xF7, d := 0xF7 } }).map
    (fun t => (t.pc, t.flags.toByte)) = some (0x0101, 0x82) := by decide
theorem test_xraB_v158 :
    (run 0x0100 [0xA8] { State.reset with
      regs := { blank with a := 0x5C, b := 0x78 }, flags := Flags.ofByte 0xD7 }).map
    (fun t => (t.regs.a, t.pc, t.flags.toByte)) = some (0x24, 0x0101, 0x06) := by decide
theorem test_oraC_v161 :
    (run 0x0100 [0xB1] { State.reset with
      regs := { blank with a := 0x33, c := 0x0F }, flags := Flags.ofByte 0xD7 }).map
    (fun t => (t.regs.a, t.pc, t.flags.toByte)) = some (0x3F, 0x0101, 0x06) := by decide
theorem test_cmpE_v164 : (run 0x0100 [0xBB] { State.reset with regs := { blank with a := 0x0A, e := 0x05 } }).map
    (fun t => (t.pc, t.flags.toByte)) = some (0x0101, 0x16) := by decide
theorem test_addM_v170 :
    (run 0x0100 [0x86] { State.reset with
      regs := { blank with a := 0x6C, h := 0x20, l := 0x00 }, flags := Flags.ofByte 0x02, mem := [(0x2000, 0x2E)] }).map
    (fun t => (t.regs.a, t.pc, t.flags.toByte)) = some (0x9A, 0x0101, 0x96) := by decide
theorem test_adcM_v171 :
    (run 0x0100 [0x8E] { State.reset with
      regs := { blank with a := 0x3D, h := 0x20, l := 0x00 }, flags := Flags.ofByte 0x03, mem := [(0x2000, 0x42)] }).map
    (fun t => (t.regs.a, t.pc, t.flags.toByte)) = some (0x80, 0x0101, 0x92) := by decide
theorem test_subM_v172 :
    (run 0x0100 [0x96] { State.reset with
      regs := { blank with a := 0x3E, h := 0x20, l := 0x00 }, flags := Flags.ofByte 0x02, mem := [(0x2000, 0x3E)] }).map
    (fun t => (t.regs.a, t.pc, t.flags.toByte)) = some (0x00, 0x0101, 0x56) := by decide
theorem test_sbbM_v173 :
    (run 0x0100 [0x9E] { State.reset with
      regs := { blank with a := 0x04, h := 0x20, l := 0x00 }, flags := Flags.ofByte 0x03, mem := [(0x2000, 0x02)] }).map
    (fun t => (t.regs.a, t.pc, t.flags.toByte)) = some (0x01, 0x0101, 0x12) := by decide
theorem test_anaM_v174 :
    (run 0x0100 [0xA6] { State.reset with
      regs := { blank with a := 0xFC, h := 0x20, l := 0x00 }, flags := Flags.ofByte 0x03, mem := [(0x2000, 0x0F)] }).map
    (fun t => (t.regs.a, t.pc, t.flags.toByte)) = some (0x0C, 0x0101, 0x16) := by decide
theorem test_xraM_v175 :
    (run 0x0100 [0xAE] { State.reset with
      regs := { blank with a := 0x5C, h := 0x20, l := 0x00 }, flags := Flags.ofByte 0x03, mem := [(0x2000, 0x78)] }).map
    (fun t => (t.regs.a, t.pc, t.flags.toByte)) = some (0x24, 0x0101, 0x06) := by decide
theorem test_oraM_v176 :
    (run 0x0100 [0xB6] { State.reset with
      regs := { blank with a := 0x33, h := 0x20, l := 0x00 }, flags := Flags.ofByte 0x03, mem := [(0x2000, 0x0F)] }).map
    (fun t => (t.regs.a, t.pc, t.flags.toByte)) = some (0x3F, 0x0101, 0x06) := by decide
theorem test_cmpM_v177 :
    (run 0x0100 [0xBE] { State.reset with
      regs := { blank with a := 0x0A, h := 0x20, l := 0x00 }, flags := Flags.ofByte 0x02, mem := [(0x2000, 0x05)] }).map
    (fun t => (t.pc, t.flags.toByte)) = some (0x0101, 0x16) := by decide
theorem test_adi_v178 :
    (run 0x0100 [0xC6, 0x42] { State.reset with regs := { blank with a := 0x14 }, flags := Flags.ofByte 0x02 }).map
    (fun t => (t.regs.a, t.pc, t.flags.toByte)) = some (0x56, 0x0102, 0x06) := by decide
theorem test_aci_v180 :
    (run 0x0100 [0xCE, 0xBE] { State.reset with regs := { blank with a := 0x56 }, flags := Flags.ofByte 0x03 }).map
    (fun t => (t.regs.a, t.pc, t.flags.toByte)) = some (0x15, 0x0102, 0x13) := by decide
theorem test_sui_v182 :
    (run 0x0100 [0xD6, 0x01] { State.reset with regs := { blank with a := 0x00 }, flags := Flags.ofByte 0x02 }).map
    (fun t => (t.regs.a, t.pc, t.flags.toByte)) = some (0xFF, 0x0102, 0x87) := by decide
theorem test_sbi_v184 :
    (run 0x0100 [0xDE, 0x01] { State.reset with regs := { blank with a := 0x00 }, flags := Flags.ofByte 0x03 }).map
    (fun t => (t.regs.a, t.pc, t.flags.toByte)) = some (0xFE, 0x0102, 0x83) := by decide
theorem test_ani_v186 :
    (run 0x0100 [0xE6, 0x0F] { State.reset with regs := { blank with a := 0x3A }, flags := Flags.ofByte 0x03 }).map
    (fun t => (t.regs.a, t.pc, t.flags.toByte)) = some (0x0A, 0x0102, 0x16) := by decide
theorem test_xri_v188 :
    (run 0x0100 [0xEE, 0x81] { State.reset with regs := { blank with a := 0x3B }, flags := Flags.ofByte 0x03 }).map
    (fun t => (t.regs.a, t.pc, t.flags.toByte)) = some (0xBA, 0x0102, 0x82) := by decide
theorem test_ori_v190 :
    (run 0x0100 [0xF6, 0x0F] { State.reset with regs := { blank with a := 0xB5 }, flags := Flags.ofByte 0x03 }).map
    (fun t => (t.regs.a, t.pc, t.flags.toByte)) = some (0xBF, 0x0102, 0x82) := by decide
theorem test_cpi_v192 :
    (run 0x0100 [0xFE, 0x40] { State.reset with regs := { blank with a := 0x4A }, flags := Flags.ofByte 0x02 }).map
    (fun t => (t.pc, t.flags.toByte)) = some (0x0102, 0x16) := by decide
theorem test_inrB_v195 :
    (run 0x0100 [0x04] { State.reset with regs := { blank with b := 0xFF }, flags := Flags.ofByte 0x02 }).map
    (fun t => (t.regs.b, t.pc, t.flags.toByte)) = some (0x00, 0x0101, 0x56) := by decide
theorem test_inrC_v197 :
    (run 0x0100 [0x0C] { State.reset with regs := { blank with c := 0x0F }, flags := Flags.ofByte 0x03 }).map
    (fun t => (t.regs.c, t.pc, t.flags.toByte)) = some (0x10, 0x0101, 0x13) := by decide
theorem test_inrM_v201 :
    (run 0x0100 [0x34] { State.reset with
      regs := { blank with h := 0x20, l := 0x00 }, flags := Flags.ofByte 0x03, mem := [(0x2000, 0x99)] }).map
    (fun t => (t.pc, t.flags.toByte, t.mem.read 0x2000)) = some (0x0101, 0x87, 0x9A) := by decide
theorem test_dcrB_v203 :
    (run 0x0100 [0x05] { State.reset with regs := { blank with b := 0x00 }, flags := Flags.ofByte 0x02 }).map
    (fun t => (t.regs.b, t.pc, t.flags.toByte)) = some (0xFF, 0x0101, 0x86) := by decide
theorem test_dcrB_v205 :
    (run 0x0100 [0x05] { State.reset with regs := { blank with b := 0x01 }, flags := Flags.ofByte 0x03 }).map
    (fun t => (t.regs.b, t.pc, t.flags.toByte)) = some (0x00, 0x0101, 0x57) := by decide
theorem test_dcrM_v209 :
    (run 0x0100 [0x35] { State.reset with
      regs := { blank with h := 0x20, l := 0x00 }, flags := Flags.ofByte 0x03, mem := [(0x2000, 0x40)] }).map
    (fun t => (t.pc, t.flags.toByte, t.mem.read 0x2000)) = some (0x0101, 0x07, 0x3F) := by decide
theorem test_rlc_v211 :
    (run 0x0100 [0x07] { State.reset with regs := { blank with a := 0xF2 }, flags := Flags.ofByte 0x02 }).map
    (fun t => (t.regs.a, t.pc, t.flags.toByte)) = some (0xE5, 0x0101, 0x03) := by decide
theorem test_rrc_v214 :
    (run 0x0100 [0x0F] { State.reset with regs := { blank with a := 0xF2 }, flags := Flags.ofByte 0x03 }).map
    (fun t => (t.regs.a, t.pc, t.flags.toByte)) = some (0x79, 0x0101, 0x02) := by decide
theorem test_ral_v216 :
    (run 0x0100 [0x17] { State.reset with regs := { blank with a := 0xB5 }, flags := Flags.ofByte 0x02 }).map
    (fun t => (t.regs.a, t.pc, t.flags.toByte)) = some (0x6A, 0x0101, 0x03) := by decide
theorem test_rar_v219 :
    (run 0x0100 [0x1F] { State.reset with regs := { blank with a := 0x6A }, flags := Flags.ofByte 0x03 }).map
    (fun t => (t.regs.a, t.pc, t.flags.toByte)) = some (0xB5, 0x0101, 0x02) := by decide
theorem test_daa_v222 :
    (run 0x0100 [0x27] { State.reset with regs := { blank with a := 0x9B }, flags := Flags.ofByte 0x02 }).map
    (fun t => (t.regs.a, t.pc, t.flags.toByte)) = some (0x01, 0x0101, 0x13) := by decide
theorem test_daa_v230 :
    (run 0x0100 [0x27] { State.reset with regs := { blank with a := 0xFF }, flags := Flags.ofByte 0x13 }).map
    (fun t => (t.regs.a, t.pc, t.flags.toByte)) = some (0x65, 0x0101, 0x17) := by decide
theorem test_cma_v236 :
    (run 0x0100 [0x2F] { State.reset with regs := { blank with a := 0x51 }, flags := Flags.ofByte 0xD7 }).map
    (fun t => (t.regs.a, t.pc, t.flags.toByte)) = some (0xAE, 0x0101, 0xD7) := by decide
theorem test_stc_v238 : (run 0x0100 [0x37] { State.reset with flags := Flags.ofByte 0x02 }).map
    (fun t => (t.pc, t.flags.toByte)) = some (0x0101, 0x03) := by decide
theorem test_cmc_v240 : (run 0x0100 [0x3F] { State.reset with flags := Flags.ofByte 0x02 }).map
    (fun t => (t.pc, t.flags.toByte)) = some (0x0101, 0x03) := by decide
theorem test_inxB_v242 :
    (run 0x0100 [0x03] { State.reset with
      regs := { blank with b := 0xFF, c := 0xFF }, flags := Flags.ofByte 0x02 }).map
    (fun t => (t.regs.b, t.regs.c, t.pc, t.flags.toByte)) = some (0x00, 0x00, 0x0101, 0x02) := by decide
theorem test_dcxB_v246 :
    (run 0x0100 [0x0B] { State.reset with
      regs := { blank with b := 0x00, c := 0x00 }, flags := Flags.ofByte 0x02 }).map
    (fun t => (t.regs.b, t.regs.c, t.pc, t.flags.toByte)) = some (0xFF, 0xFF, 0x0101, 0x02) := by decide
theorem test_dadB_v250 :
    (run 0x0100 [0x09] { State.reset with
      regs := { blank with b := 0x33, c := 0x9F, h := 0xA1, l := 0x7B }, flags := Flags.ofByte 0xD7 }).map
    (fun t => (t.regs.h, t.regs.l, t.pc, t.flags.toByte)) = some (0xD5, 0x1A, 0x0101, 0xD6) := by decide
theorem test_dadD_v251 :
    (run 0x0100 [0x19] { State.reset with
      regs := { blank with d := 0x00, e := 0x01, h := 0xFF, l := 0xFF }, flags := Flags.ofByte 0x02 }).map
    (fun t => (t.regs.h, t.regs.l, t.pc, t.flags.toByte)) = some (0x00, 0x00, 0x0101, 0x03) := by decide
theorem test_boundary_v256 :
    (after { State.reset with
      pc := 0x0150, sp := 0x2400, regs := { blank with a := 0x12 }, flags := Flags.ofByte 0x97, inte := true, plat := { State.reset.plat with
      boundary := [{ reset := false, request := some { op := 0xFF, b2 := 0x00, b3 := 0x00 } }] } }).map
    (fun t => ((t.sp, t.pc), t.inte, t.mem.read 0x23FF, t.mem.read 0x23FE)) =
      some ((0x23FE, 0x0038), false, 0x01, 0x50) := by decide
theorem test_boundary_v257 :
    (after { State.reset with pc := 0x0150, sp := 0x2400, inte := true, plat := { State.reset.plat with
      boundary := [{ reset := false, request := some { op := 0xCF, b2 := 0x00, b3 := 0x00 } }] } }).map
    (fun t => ((t.sp, t.pc), t.inte, t.mem.read 0x23FF, t.mem.read 0x23FE)) =
      some ((0x23FE, 0x0008), false, 0x01, 0x50) := by decide
theorem test_boundary_v258 :
    (after { State.reset with pc := 0x0150, sp := 0x2400, inte := true, plat := { State.reset.plat with
      boundary := [{ reset := false, request := some { op := 0xC7, b2 := 0x00, b3 := 0x00 } }] } }).map
    (fun t => ((t.sp, t.pc), t.inte, t.mem.read 0x23FF, t.mem.read 0x23FE)) =
      some ((0x23FE, 0x0000), false, 0x01, 0x50) := by decide
theorem test_boundary_v259 :
    (after { State.reset with pc := 0xFFFF, sp := 0x0001, inte := true, plat := { State.reset.plat with
      boundary := [{ reset := false, request := some { op := 0xCD, b2 := 0x00, b3 := 0x40 } }] } }).map
    (fun t => ((t.sp, t.pc), t.inte, t.mem.read 0x0000, t.mem.read 0xFFFF)) =
      some ((0xFFFF, 0x4000), false, 0xFF, 0xFF) := by decide
theorem test_boundary_v260 :
    (after { State.reset with pc := 0x0150, sp := 0x2400, mem := [(0x0150, 0x00)], plat := { State.reset.plat with
      boundary := [{ reset := false, request := some { op := 0xFF, b2 := 0x00, b3 := 0x00 } }] } }).map
    (fun t => (t.pc)) = some (0x0151) := by decide
theorem test_boundary_v261 :
    (after { State.reset with
      pc := 0x0301, sp := 0x2400, inte := true, intInhibit := true, mem := [(0x0301, 0x00)], plat := { State.reset.plat with
      boundary := [{ reset := false, request := some { op := 0xFF, b2 := 0x00, b3 := 0x00 } }] } }).map
    (fun t => (t.pc, t.intInhibit)) = some (0x0302, false) := by decide
theorem test_boundary_v262 :
    (after { State.reset with
      pc := 0x0011, sp := 0x2400, inte := true, halted := true, plat := { State.reset.plat with
      boundary := [{ reset := false, request := some { op := 0xD7, b2 := 0x00, b3 := 0x00 } }] } }).map
    (fun t => ((t.sp, t.pc, t.inte), t.halted, t.mem.read 0x23FF, t.mem.read 0x23FE)) =
      some ((0x23FE, 0x0010, false), false, 0x00, 0x11) := by decide
theorem test_boundary_v263 :
    (after { State.reset with pc := 0x0011, sp := 0x2400, halted := true, plat := { State.reset.plat with
      boundary := [{ reset := false, request := some { op := 0xD7, b2 := 0x00, b3 := 0x00 } }] } }).map
    (fun t => (t.pc, t.halted)) = some (0x0011, true) := by decide
theorem test_boundary_v264 :
    (after { State.reset with
      pc := 0x0011, sp := 0x2400, inte := true, halted := true, plat := { State.reset.plat with
      boundary := [{ reset := false, request := none }] } }).map
    (fun t => (t.pc, t.halted)) = some (0x0011, true) := by decide
theorem test_boundary_v265 :
    (after { State.reset with
      pc := 0x1234, sp := 0x2400, regs := { blank with a := 0x55 }, flags := Flags.ofByte 0xD7, inte := true, intInhibit := true, plat := { State.reset.plat with
      boundary := [{ reset := true, request := none }] } }).map
    (fun t => (t.pc, t.inte, t.intInhibit)) = some (0x0000, false, false) := by decide
theorem test_boundary_v266 :
    (after { State.reset with pc := 0x0011, sp := 0x2400, halted := true, plat := { State.reset.plat with
      boundary := [{ reset := true, request := none }] } }).map
    (fun t => (t.pc, t.halted)) = some (0x0000, false) := by decide

/-! ### Steps that are refused -/

/-- 30_encoding.md R91: an alternative opcode under `refuse`. -/
theorem test_alternative_refused :
    (after { State.reset with cfg := { Config.default with altOpcodePolicy := .refuse }, mem := [(0, 0x08)] }) = none := by
  decide

/-- 60_exceptions.md R285 case 3: a supplied `NOP`, and a supplied `*CALL`. -/
theorem test_supplied_refused (op : Byte) (h : op = 0x00 ∨ op = 0xDD) :
    step { State.reset with
      inte := true
      plat := { State.reset.plat with
        boundary := [{ reset := false, request := some { op := op, b2 := 0, b3 := 0 } }] } } =
      .refused (.suppliedNotAdmitted op) := by
  rcases h with rfl | rfl <;> rfl

/-- 44_alu_8bit.md R213: `ANA` under `AndAuxCarry = zero` (V153 with the other setting). -/
theorem test_anaC_zero : (after { State.reset with
      cfg := { Config.default with andAuxCarry := .zero }
      regs := { blank with a := 0xFC, c := 0x0F }
      mem := [(0, 0xA1)] }).map (fun t => (t.regs.a, t.flags.toByte)) = some (0x0C, 0x06) := by decide

/-! ### The fixed entry of the host -/

/-- The instruction placed at reset is the one the next step runs. -/
theorem test_withFetchWord_sta : (after ((State.reset.withFetchWord 24 0x123432))).map
    (fun t => (t.pc, t.mem.read 0x1234)) = some (0x0003, 0x00) := by decide
/-- The model's choice for a row that gives the opcode alone: operand bytes of zeros (log 23). -/
theorem test_withFetchWord_short : (after ((State.reset.withFetchWord 8 0x31))).map
    (fun t => (t.pc, t.sp)) = some (0x0003, 0x0000) := by decide

/-! ### Witnesses: for each statement with hypotheses, inputs that meet all of them together -/

/-- A state at 0x0100 with a stack, before the given bytes of memory. -/
def bench (mem : Memory) : State := { State.reset with pc := 0x0100, sp := 0x2400, mem := mem }

/-- The same with one entry in the boundary script. -/
def benchAt (mem : Memory) (b : Boundary) : State :=
  { bench mem with plat := { State.reset.plat with boundary := [b] } }

/-- A supplied one-byte instruction. -/
def supply (op : Byte) : Supply := { op := op, b2 := 0x00, b3 := 0x40 }

/-- A request for one instruction, and an asserted reset. -/
def asks (op : Byte) : Boundary := { reset := false, request := some (supply op) }
def resets : Boundary := { reset := true, request := some (supply 0xFF) }

/-- A memory map with one region of each class that is not RAM. -/
def mapped : Config := { Config.default with
  memMap := [{ base := 0x1000, size := 0x100, cls := .rom }, { base := 0x2000, size := 0x100, cls := .device },
    { base := 0x3000, size := 0x100, cls := .absent }] }

/-- The policy that refuses the alternative opcodes. -/
def refusing : Config := { Config.default with altOpcodePolicy := .refuse }

theorem witness_EncodeDecodeRoundTrip : decode [0xC3, 0x34, 0x12, 0xFF] = .ok (.jmp 0x1234, [0xFF]) := rfl

theorem witness_DecodeFailsOnlyOnShortInput :
    (opLength 0x00 ≤ ([] : List Byte).length + 1 ∧ opLength 0x3E ≤ ([1] : List Byte).length + 1 ∧
      opLength 0xC3 ≤ ([1, 2] : List Byte).length + 1) ∧
    (([] : List Byte).length + 1 < opLength 0x3E ∧ ([1] : List Byte).length + 1 < opLength 0xC3) := by decide

theorem witness_StepRunsDecodedInstruction :
    let s := bench [(0x0100, 0xC3), (0x0101, 0x34), (0x0102, 0x12)]
    s.atBoundary.reset = false ∧ s.acceptedRequest = none ∧ s.halted = false ∧
    (∀ k : Nat, k < (Instr.jmp 0x1234).length → s.memClass (s.pc + BitVec.ofNat 16 k) = .ram ∨
      s.memClass (s.pc + BitVec.ofNat 16 k) = .rom) ∧
    decode [s.mem.read s.pc, s.mem.read (s.pc + 1), s.mem.read (s.pc + 2)] = .ok (.jmp 0x1234, []) :=
  ⟨rfl, rfl, rfl, by decide, rfl⟩

/-- At the edge of a ROM: the opcode in ROM, its operand in RAM; and a one-byte instruction at the last address. -/
theorem witness_StepRunsDecodedInstruction_edges :
    (let s := { bench [(0x0000, 0x00), (0x0001, 0x00), (0x10FF, 0x3E), (0x1100, 0x77), (0x1101, 0x00)] with
        pc := 0x10FF, cfg := mapped };
      s.atBoundary.reset = false ∧ s.acceptedRequest = none ∧ s.halted = false ∧
      (∀ k : Nat, k < (Instr.mviA 0x77).length → s.memClass (s.pc + BitVec.ofNat 16 k) = .ram ∨
        s.memClass (s.pc + BitVec.ofNat 16 k) = .rom) ∧
      decode [s.mem.read s.pc, s.mem.read (s.pc + 1), s.mem.read (s.pc + 2)] = .ok (.mviA 0x77, [0x00])) ∧
    (let s := { bench [(0x0000, 0x01), (0x0001, 0x02), (0xFFFF, 0x76)] with pc := 0xFFFF };
      s.atBoundary.reset = false ∧ s.acceptedRequest = none ∧ s.halted = false ∧
      (∀ k : Nat, k < Instr.hlt.length → s.memClass (s.pc + BitVec.ofNat 16 k) = .ram ∨
        s.memClass (s.pc + BitVec.ofNat 16 k) = .rom) ∧
      decode [s.mem.read s.pc, s.mem.read (s.pc + 1), s.mem.read (s.pc + 2)] = .ok (.hlt, [0x01, 0x02])) :=
  ⟨⟨rfl, rfl, rfl, by decide, rfl⟩, rfl, rfl, rfl, by decide, rfl⟩

theorem witness_ResetWritesFourFields : (benchAt [] resets).atBoundary.reset = true := rfl

theorem witness_InterruptAcceptance :
    (∀ n : Fin 8, let s := { benchAt [] (asks (BitVec.ofNat 8 (0xC7 + 8 * n.val))) with inte := true };
      s.atBoundary.reset = false ∧ s.inte = true ∧ s.intInhibit = false ∧
      s.atBoundary.request = some (supply (BitVec.ofNat 8 (0xC7 + 8 * n.val)))) ∧
    (let s := { benchAt [] (asks 0xCD) with inte := true, halted := true };
      s.atBoundary.reset = false ∧ s.inte = true ∧ s.intInhibit = false ∧
      s.atBoundary.request = some (supply 0xCD) ∧ wordOf (supply 0xCD).b3 (supply 0xCD).b2 = 0x4000) :=
  ⟨fun _ => ⟨rfl, rfl, rfl, rfl⟩, rfl, rfl, rfl, rfl, rfl⟩

theorem witness_OtherSuppliedRefused :
    let s := { benchAt [] (asks 0xDD) with inte := true }
    s.atBoundary.reset = false ∧ s.inte = true ∧ s.intInhibit = false ∧
    s.atBoundary.request = some (supply 0xDD) ∧
    (supply 0xDD).op ∉ ([0xC7, 0xCF, 0xD7, 0xDF, 0xE7, 0xEF, 0xF7, 0xFF, 0xCD] : List Byte) :=
  ⟨rfl, rfl, rfl, rfl, by decide⟩

theorem witness_MaskedRequestIgnored :
    (let s := benchAt [(0x0100, 0x00)] (asks 0xFF);
      s.plat.boundary = [asks 0xFF] ∧ s.inte = false) ∧
    (let s := { benchAt [(0x0100, 0x00)] (asks 0xFF) with inte := true, intInhibit := true };
      s.plat.boundary = [asks 0xFF] ∧ s.intInhibit = true) := ⟨⟨rfl, rfl⟩, rfl, rfl⟩

theorem witness_HaltedStepChangesNothing :
    (let s := { bench [] with halted := true, inte := true };
      s.atBoundary.reset = false ∧ s.acceptedRequest = none ∧ s.halted = true) ∧
    (let s := { benchAt [] (asks 0xFF) with halted := true };
      s.atBoundary.reset = false ∧ s.acceptedRequest = none ∧ s.halted = true) := by decide

theorem witness_FinalStateIsFixed :
    let s := { benchAt [] (asks 0xD7) with halted := true }
    s.halted = true ∧ s.inte = false ∧ (∀ b ∈ s.plat.boundary, b.reset = false) := by decide

theorem witness_StepKeepsInvariant :
    let s := bench [(0x0100, 0xFB)]
    (Memory.wf s.mem = true ∧ (s.halted = true → s.intInhibit = false) ∧ (s.intInhibit = true → s.inte = true)) ∧
    (after s).isSome = true := by decide

theorem witness_StepRefusalsAreTheSpecs :
    step { bench [(0x0100, 0x08)] with cfg := refusing } = .refused (.altOpcode 0x08) ∧
    step { benchAt [] (asks 0xDD) with inte := true } = .refused (.suppliedNotAdmitted 0xDD) := ⟨rfl, rfl⟩

theorem witness_EveryInstructionCompletes :
    (Instr.altRetD9.opcode ∈ altOpcodes → (bench []).cfg.altOpcodePolicy = .execute) ∧
    (Instr.ret.opcode ∈ altOpcodes → ({ bench [] with cfg := refusing } : State).cfg.altOpcodePolicy = .execute) := by
  decide

theorem witness_AlternativeOpcodes :
    (Instr.altCallFD 0x1000, Instr.call 0x1000) ∈
      [(Instr.altNop08, Instr.nop), (.altNop10, .nop), (.altNop18, .nop), (.altNop20, .nop), (.altNop28, .nop),
        (.altNop30, .nop), (.altNop38, .nop), (.altJmpCB 0x1000, .jmp 0x1000), (.altRetD9, .ret),
        (.altCallDD 0x1000, .call 0x1000), (.altCallED 0x1000, .call 0x1000), (.altCallFD 0x1000, .call 0x1000)] ∧
    (bench []).cfg.altOpcodePolicy = .execute ∧
    ({ bench [] with cfg := refusing } : State).cfg.altOpcodePolicy = .refuse := by decide

theorem witness_UnaffectedFlagsKept :
    (∃ t, exec .inrB (bench []) = .next t) ∧ (flagsAffected Instr.inrB.opcode).c = false ∧
    (∃ t, exec .stc (bench []) = .next t) ∧ (flagsAffected Instr.stc.opcode).s = false ∧
    (flagsAffected Instr.stc.opcode).z = false ∧ (flagsAffected Instr.stc.opcode).a = false ∧
    (flagsAffected Instr.stc.opcode).p = false ∧
    ((benchAt [] resets).atBoundary.reset = true ∧ ∃ t, step (benchAt [] resets) = .next t) ∧
    (let s := { benchAt [] (asks 0xC7) with inte := true };
      s.acceptedRequest ≠ none ∧ ∃ t, step s = .next t) :=
  ⟨⟨_, rfl⟩, rfl, ⟨_, rfl⟩, rfl, rfl, rfl, rfl, ⟨rfl, _, rfl⟩, by decide, _, rfl⟩

theorem witness_PcAdvancesByLength :
    (∃ t, exec (.lda 0xFFFF) (bench []) = .next t) ∧ writesPc (.lda 0xFFFF) = false ∧
    (∃ t, exec .nop { bench [] with pc := 0xFFFF } = .next t) ∧ writesPc .nop = false :=
  ⟨⟨_, rfl⟩, rfl, ⟨_, rfl⟩, rfl⟩

theorem witness_ParametersFixedTraceGrows : ∃ t, step (bench [(0x0100, 0xD3), (0x0101, 0x01)]) = .next t := ⟨_, rfl⟩

theorem witness_RegisterFrame :
    (∃ t, exec .popB (bench []) = .next t) ∧ Reg.a ∉ writtenRegs .popB ∧
    (∃ t, exec .xthl (bench []) = .next t) ∧ writesSp .xthl = false := ⟨⟨_, rfl⟩, by decide, ⟨_, rfl⟩, rfl⟩

theorem witness_MemoryFrame :
    (∃ t, exec (.shld 0xFFFF) (bench []) = .next t) ∧ (0x0001 : Word) ∉ storedBytes (.shld 0xFFFF) (bench []) ∧
    (∃ t, exec (.cnz 0x1000) (bench []) = .next t) ∧ (0x2400 : Word) ∉ storedBytes (.cnz 0x1000) (bench []) ∧
    (∃ t, exec (.cz 0x1000) (bench []) = .next t) ∧ (0x23FF : Word) ∉ storedBytes (.cz 0x1000) (bench []) :=
  ⟨⟨_, rfl⟩, by decide, ⟨_, rfl⟩, by decide, ⟨_, rfl⟩, by decide⟩

theorem witness_HiddenBitWriters :
    (∃ t, exec .ei (bench []) = .next t) ∧ (∃ t, exec .di (bench []) = .next t) ∧
    (∃ t, exec .hlt (bench []) = .next t) ∧ (∃ t, exec .ret (bench []) = .next t) :=
  ⟨⟨_, rfl⟩, ⟨_, rfl⟩, ⟨_, rfl⟩, _, rfl⟩

theorem witness_OnlyRamChanges :
    let s := { bench [(0x0100, 0xC7)] with sp := 0x1001, cfg := mapped }
    (∃ t, step s = .next t) ∧ s.memClass 0x1000 ≠ .ram ∧ s.memClass 0x2000 ≠ .ram ∧ s.memClass 0x3000 ≠ .ram :=
  ⟨⟨_, rfl⟩, by decide⟩

/-- Each class, at the first or last address of its region and just outside. -/
theorem witness_MemoryClasses :
    let s := { bench [] with cfg := mapped }
    s.memClass 0x0FFF = .ram ∧ s.memClass 0x1100 = .ram ∧ s.memClass 0xFFFF = .ram ∧ s.memClass 0x1000 = .rom ∧
    s.memClass 0x10FF = .rom ∧ s.memClass 0x2000 = .device ∧ s.memClass 0x20FF = .device ∧
    s.memClass 0x3000 = .absent ∧ s.memClass 0x30FF = .absent := by decide

theorem witness_CanonicalMemoriesEqual :
    let m := Memory.write (Memory.write [] 0xFFFF 0x12) 0x0000 0x34
    let n := Memory.write (Memory.write [] 0x0000 0x34) 0xFFFF 0x12
    m.wf = true ∧ n.wf = true ∧ (∀ a : Word, m.cellAt a.toNat = n.cellAt a.toNat) :=
  ⟨by decide, by decide, fun _ => rfl⟩

/-- A stack in the middle of memory and one that wraps. -/
theorem witness_stack_ram :
    ((bench []).memClass ((bench []).sp - 1) = .ram ∧ (bench []).memClass ((bench []).sp - 2) = .ram) ∧
    (let s := { bench [] with sp := 0x0001 };
      s.memClass (s.sp - 1) = .ram ∧ s.memClass (s.sp - 2) = .ram) := by decide

theorem witness_PushThenPop : (bench []).memClass ((bench []).sp - 1) = .ram ∧
    (bench []).memClass ((bench []).sp - 2) = .ram := witness_stack_ram.1
theorem witness_CallThenReturn : (bench []).memClass ((bench []).sp - 1) = .ram ∧
    (bench []).memClass ((bench []).sp - 2) = .ram := witness_stack_ram.1
theorem witness_PushPswPopPsw : (bench []).memClass ((bench []).sp - 1) = .ram ∧
    (bench []).memClass ((bench []).sp - 2) = .ram := witness_stack_ram.1

theorem witness_InterruptThenReturn :
    ∀ n : Fin 8, let s := { benchAt [] (asks (BitVec.ofNat 8 (0xC7 + 8 * n.val))) with inte := true, halted := true };
      s.atBoundary.reset = false ∧ s.inte = true ∧ s.intInhibit = false ∧
      s.atBoundary.request = some (supply (BitVec.ofNat 8 (0xC7 + 8 * n.val))) ∧
      s.memClass (s.sp - 1) = .ram ∧ s.memClass (s.sp - 2) = .ram :=
  fun _ => ⟨rfl, rfl, rfl, rfl, rfl, rfl⟩

theorem witness_StoreSeenByNextFetch :
    (let s := { bench [] with regs := { blank with h := 0x01, l := 0x01 } };
      s.hl = s.pc + 1 ∧ s.memClass (s.pc + 1) = .ram) ∧
    (let s := { bench [] with pc := 0xFFFF };
      s.hl = s.pc + 1 ∧ s.memClass (s.pc + 1) = .ram) := by decide

/-- `EI` and then `NOP`, `DI` or `EI`, a request present throughout. -/
theorem witness_EiDelay : ∀ op ∈ ([0x00, 0xF3, 0xFB] : List Byte),
    let s := { bench [(0x0100, 0xFB), (0x0101, op)] with
      plat := { State.reset.plat with boundary := [asks 0xFF, asks 0xFF, asks 0xFF] } }
    s.atBoundary.reset = false ∧ s.acceptedRequest = none ∧ s.halted = false ∧ s.pastBoundary.fetch.1 = .ei ∧
    ((after s).map (fun t => (t.atBoundary.reset, t.pastBoundary.fetch.1.opcode, (after t).isSome))) =
      some (false, op, true) := by decide

theorem witness_Involutions : let s := { bench [] with sp := 0xFFFF }
    s.memClass s.sp = .ram ∧ s.memClass (s.sp + 1) = .ram := by decide

theorem witness_NoOperations : (Instr.altNop38, 0x38) ∈ [(Instr.altNop08, 0x08), (.altNop10, 0x10), (.altNop18, 0x18),
      (.altNop20, 0x20), (.altNop28, 0x28), (.altNop30, 0x30), (.altNop38, 0x38)] ∧
    (bench []).cfg.altOpcodePolicy = .execute ∧
    ({ bench [] with cfg := refusing } : State).cfg.altOpcodePolicy = .refuse := by decide
theorem witness_Jumps : (bench []).cfg.altOpcodePolicy = .execute := rfl
theorem witness_Calls : (Instr.altCallED 0x1000, 0xED) ∈ [(Instr.altCallDD 0x1000, 0xDD), (.altCallED 0x1000, 0xED),
    (.altCallFD 0x1000, 0xFD)] ∧ (bench []).cfg.altOpcodePolicy = .execute := by decide
theorem witness_Returns : (bench []).cfg.altOpcodePolicy = .execute := rfl

theorem witness_PortInstructions :
    (let s := { bench [] with plat := { State.reset.plat with answers := [0x5A] } };
      s.plat.answers = [0x5A]) ∧ (bench []).plat.answers = [] := ⟨rfl, rfl⟩

theorem witness_AccumulatorLoadsStores :
    (Instr.ldaxD, (0x4000 : Word), 0x1A) ∈ [(Instr.ldaxB, (0x4001 : Word), 0x0A), (.ldaxD, 0x4000, 0x1A)] ∧
    (Instr.staxB, (0x4001 : Word), 0x02) ∈ [(Instr.staxB, (0x4001 : Word), 0x02), (.staxD, 0x4000, 0x12)] := by decide

theorem witness_Additions : let s := { bench [] with flags := Flags.ofByte 0xD7 }
    (AluOp.add, false) ∈ [(AluOp.add, false), (.adc, s.flags.c)] ∧
    (AluOp.adc, true) ∈ [(AluOp.add, false), (.adc, s.flags.c)] := by decide
theorem witness_Subtractions : let s := { bench [] with flags := Flags.ofByte 0xD7 }
    (AluOp.sub, false) ∈ [(AluOp.sub, false), (.sbb, s.flags.c)] ∧
    (AluOp.sbb, true) ∈ [(AluOp.sub, false), (.sbb, s.flags.c)] := by decide

/-- Each of the three cases of `Logicals`, met by its own operation and function. -/
theorem witness_Logicals : ∀ op : AluOp, op = .ana ∨ op = .xra ∨ op = .ora →
    ∃ (f : Byte → Byte → Byte) (aux : Byte → Byte → Bool),
      op = .ana ∧ f = (fun a b => a &&& b) ∧ aux = Spec.andAux (bench []).cfg ∨
      op = .xra ∧ f = (fun a b => a ^^^ b) ∧ aux = (fun _ _ => false) ∨
      op = .ora ∧ f = (fun a b => a ||| b) ∧ aux = (fun _ _ => false) := by
  rintro op (rfl | rfl | rfl)
  · exact ⟨_, _, .inl ⟨rfl, rfl, rfl⟩⟩
  · exact ⟨_, _, .inr (.inl ⟨rfl, rfl, rfl⟩)⟩
  · exact ⟨_, _, .inr (.inr ⟨rfl, rfl, rfl⟩)⟩

/-- The largest digit pairs, as an immediate and in a register; 99 is the byte 0x99. -/
theorem witness_DecimalAddition : let s := { bench [] with regs := { blank with a := 0x99, b := 0x99 } }
    (99 < 100) ∧ s.regs.a = Spec.bcd 99 ∧ s.regs.get .b = Spec.bcd 99 ∧
    Instr.aluReg .adc .b = .adcB ∧ (Spec.bcd 0 = 0x00) := by decide


end Sys2Proof.Tests
end

/-! PROOFS for the family 10_state.md. The argument in three layers: what a run keeps (`SameRun`), what an instruction's
body may change (`Within` a `Footprint`), and one theorem that says of every instruction how it completes
(`exec_completes`). The statements about instructions are read off that theorem. -/

namespace Sys2Proof.Machine

/-! ### What a run keeps (10_state.md R39): the parameters and the script stay, the record of events grows at its end -/

/-- `t` belongs to the same run as `s`, at the same boundary: no instruction and no access of one writes the
parameters or the script of boundaries, and none takes back an event. -/
structure SameRun (s t : State) : Prop where
  cfg : t.cfg = s.cfg := by simp
  boundary : t.plat.boundary = s.plat.boundary := by simp
  trace : s.plat.trace <+: t.plat.trace := by simp

namespace SameRun

variable {s u : State}

theorem refl (s : State) : SameRun s s := {}

theorem trans {t : State} (h : SameRun s u) (k : SameRun u t) : SameRun s t where
  cfg := k.cfg.trans h.cfg
  boundary := k.boundary.trans h.boundary
  trace := h.trace.trans k.trace

/-- Processor state and memory do not matter to it. -/
theorem of_eq (hcfg : u.cfg = s.cfg) (hplat : u.plat = s.plat) : SameRun s u where
  cfg := hcfg
  boundary := by rw [hplat]
  trace := by rw [hplat]

theorem draw (s : State) : SameRun s s.draw.2 where
  trace := by unfold State.draw; split <;> simp

theorem record (s : State) (ev : Event) : SameRun s (s.record ev) := {}

theorem portRead (s : State) (p : Byte) : SameRun s (s.portRead p).2 :=
  (draw s).trans (record _ _)

theorem memRead (s : State) (a : Word) : SameRun s (s.memRead a).2 := by
  unfold State.memRead
  split
  · exact refl s
  · exact refl s
  · exact (draw s).trans (record _ _)
  · exact draw s

theorem memWrite (s : State) (a : Word) (v : Byte) : SameRun s (s.memWrite a v) := by
  unfold State.memWrite
  split
  · exact of_eq rfl rfl
  · exact refl s
  · exact record _ _
  · exact refl s

theorem push (s : State) (v : Word) : SameRun s (s.push v) :=
  ((memWrite s _ _).trans (memWrite _ _ _)).trans (of_eq rfl rfl)

theorem pop (s : State) : SameRun s s.pop.2 :=
  ((memRead s _).trans (memRead _ _)).trans (of_eq rfl rfl)

theorem call (s : State) (target ret : Word) : SameRun s (s.call target ret) :=
  (push s ret).trans (of_eq rfl rfl)

/-- A fetch is one, two or three reads. -/
theorem fetch (s : State) : SameRun s s.fetch.2 := by
  unfold State.fetch
  dsimp only
  split
  · exact memRead s _
  · exact (memRead s _).trans (memRead _ _)
  · exact ((memRead s _).trans (memRead _ _)).trans (memRead _ _)

end SameRun

/-! ### Footprints: what an instruction is listed as changing (10_state.md R29, R40, 20_memory.md R56) -/

/-- The two values agree on every flag outside the set. -/
def FlagSet.Kept (affected : FlagSet) (f g : Flags) : Prop :=
  (affected.s = false → g.s = f.s) ∧ (affected.z = false → g.z = f.z) ∧ (affected.a = false → g.a = f.a) ∧
  (affected.p = false → g.p = f.p) ∧ (affected.c = false → g.c = f.c)

@[simp] theorem FlagSet.kept_refl (fs : FlagSet) (f : Flags) : fs.Kept f f := by simp [FlagSet.Kept]

theorem FlagSet.Kept.trans {fs : FlagSet} {f g k : Flags} (h : fs.Kept f g) (h' : fs.Kept g k) : fs.Kept f k := by
  obtain ⟨hs, hz, ha, hp, hc⟩ := h
  obtain ⟨hs', hz', ha', hp', hc'⟩ := h'
  exact ⟨fun e => (hs' e).trans (hs e), fun e => (hz' e).trans (hz e), fun e => (ha' e).trans (ha e),
    fun e => (hp' e).trans (hp e), fun e => (hc' e).trans (hc e)⟩

theorem FlagSet.kept_all (f g : Flags) : FlagSet.all.Kept f g := by simp [FlagSet.Kept, FlagSet.all]

theorem FlagSet.kept_szap {f g : Flags} (h : g.c = f.c) : FlagSet.szap.Kept f g := by
  simp [FlagSet.Kept, FlagSet.szap, h]

theorem FlagSet.kept_carry (f : Flags) (v : Bool) : FlagSet.carry.Kept f { f with c := v } := by
  simp [FlagSet.Kept, FlagSet.carry]

/-- The flags, the registers, `sp` or not, and the addresses that may change. -/
structure Footprint where
  flags : FlagSet
  regs : List Reg
  sp : Bool
  stores : List Word

/-- The footprint the model's tables list for an instruction run from a state. -/
def footprint (i : Instr) (s : State) : Footprint :=
  { flags := flagsAffected i.opcode, regs := writtenRegs i, sp := writesSp i, stores := storedBytes i s }

/-- The chart's column at the opcode byte itself, for an instruction that carries an operand. -/
theorem footprint_of_encode {i : Instr} {op : Byte} {operands : List Byte} (h : encode i = op :: operands) (s : State) :
    footprint i s = ⟨flagsAffected op, writtenRegs i, writesSp i, storedBytes i s⟩ := by
  simp [footprint, Instr.opcode, h]

/-- From `s` to `t` nothing changed outside the footprint; `pc`, `inte` and `halted` are kept (the body of an
instruction writes none of them), and the run is the same. -/
structure Within (fp : Footprint) (s t : State) : Prop where
  flags : fp.flags.Kept s.flags t.flags := by simp
  regs : ∀ r : Reg, r ∉ fp.regs → t.regs.get r = s.regs.get r := by simp
  sp : fp.sp = false → t.sp = s.sp := by simp
  mem : ∀ a : Word, a ∉ fp.stores → t.mem.read a = s.mem.read a := by simp
  pc : t.pc = s.pc := by simp
  inte : t.inte = s.inte := by simp
  halted : t.halted = s.halted := by simp
  run : SameRun s t := by exact .of_eq rfl rfl

namespace Within

variable {fp : Footprint} {s u : State}

theorem refl (fp : Footprint) (s : State) : Within fp s s := {}

theorem trans {t : State} (h : Within fp s u) (k : Within fp u t) : Within fp s t where
  flags := h.flags.trans k.flags
  regs r hr := (k.regs r hr).trans (h.regs r hr)
  sp e := (k.sp e).trans (h.sp e)
  mem a ha := (k.mem a ha).trans (h.mem a ha)
  pc := k.pc.trans h.pc
  inte := k.inte.trans h.inte
  halted := k.halted.trans h.halted
  run := h.run.trans k.run

/-! One rule for each operation of the state: applied to what was within the footprint so far, it stays within, given
that the footprint lists what the operation writes. -/

theorem setReg {r : Reg} (h : Within fp s u) (hr : r ∈ fp.regs) (v : Byte) : Within fp s (u.setReg r v) :=
  h.trans { regs := fun _ hq => Regs.get_set_ne _ _ fun e => hq (e ▸ hr) }

theorem setPair {p : Pair} (h : Within fp s u) (hhi : hiReg p ∈ fp.regs) (hlo : loReg p ∈ fp.regs) (v : Word) :
    Within fp s (u.setPair p v) :=
  (h.setReg hhi _).setReg hlo _

theorem setSp (h : Within fp s u) (hsp : fp.sp = true) (v : Word) : Within fp s { u with sp := v } :=
  h.trans { sp := by simp [hsp] }

theorem setFlags {f : Flags} (h : Within fp s u) (hf : fp.flags.Kept u.flags f) : Within fp s { u with flags := f } :=
  h.trans { flags := hf }

theorem setPsw (h : Within fp s u) (hr : .a ∈ fp.regs) (hf : fp.flags = .all) (v : Word) :
    Within fp s (u.setPsw v) :=
  (h.setReg hr _).setFlags (by rw [hf]; exact FlagSet.kept_all _ _)

theorem setCarry (h : Within fp s u) (hf : fp.flags = .carry) (v : Bool) : Within fp s (u.setCarry v) :=
  h.setFlags (by rw [hf]; exact FlagSet.kept_carry _ _)

theorem portRead (h : Within fp s u) (p : Byte) : Within fp s (u.portRead p).2 :=
  h.trans { run := .portRead u p }

theorem portWrite (h : Within fp s u) (p v : Byte) : Within fp s (u.portWrite p v) :=
  h.trans { run := .record u _ }

theorem memRead (h : Within fp s u) (a : Word) : Within fp s (u.memRead a).2 :=
  h.trans { run := .memRead u a }

theorem memWrite {a : Word} (h : Within fp s u) (ha : a ∈ fp.stores) (v : Byte) : Within fp s (u.memWrite a v) :=
  h.trans { mem := fun _ hb => State.memWrite_read_ne _ _ fun e => hb (e ▸ ha), run := .memWrite u a v }

theorem push (h : Within fp s u) (hsp : fp.sp = true) (h1 : u.sp - 1 ∈ fp.stores) (h2 : u.sp - 2 ∈ fp.stores)
    (v : Word) : Within fp s (u.push v) :=
  ((h.memWrite h1 _).memWrite h2 _).setSp hsp _

theorem pop (h : Within fp s u) (hsp : fp.sp = true) : Within fp s u.pop.2 :=
  ((h.memRead _).memRead _).setSp hsp _

end Within

/-! ### Operands: what writing one touches -/

/-- The register an 8-bit operand is. -/
def Operand8.regs : Operand8 → List Reg
  | .reg r => [r]
  | .m => []

/-- The address an 8-bit operand is. -/
def Operand8.bytes (s : State) : Operand8 → List Word
  | .reg _ => []
  | .m => [s.hl]

/-- The two registers of a pair. -/
def pairRegs (p : Pair) : List Reg := [hiReg p, loReg p]

/-- The registers of a 16-bit operand. -/
def pair16Regs : Pair16 → List Reg
  | .bc => pairRegs .bc
  | .de => pairRegs .de
  | .hl => pairRegs .hl
  | .sp => []

@[simp] theorem State.readOperand_hl (s : State) (o : Operand8) : (s.readOperand o).2.hl = s.hl := by
  simp [State.hl, State.pair, State.reg]

theorem Within.readOperand {fp : Footprint} {s u : State} (h : Within fp s u) (o : Operand8) :
    Within fp s (u.readOperand o).2 := by
  cases o with
  | reg r => exact h
  | m => exact h.memRead _

theorem Within.writeOperand {fp : Footprint} {s u : State} {o : Operand8} (h : Within fp s u)
    (hr : fp.regs = o.regs) (hb : fp.stores = o.bytes u) (v : Byte) : Within fp s (u.writeOperand o v) := by
  cases o with
  | reg r => exact h.setReg (by simp [hr, Operand8.regs]) v
  | m => exact h.memWrite (by simp [hb, Operand8.bytes]) v

theorem Within.setPair16 {fp : Footprint} {s u : State} {p : Pair16} (h : Within fp s u) (hr : fp.regs = pair16Regs p)
    (hsp : fp.sp = decide (p = .sp)) (v : Word) : Within fp s (u.setPair16 p v) := by
  cases p with
  | bc => exact h.setPair (by simp [hr, pair16Regs, pairRegs]) (by simp [hr, pair16Regs, pairRegs]) v
  | de => exact h.setPair (by simp [hr, pair16Regs, pairRegs]) (by simp [hr, pair16Regs, pairRegs]) v
  | hl => exact h.setPair (by simp [hr, pair16Regs, pairRegs]) (by simp [hr, pair16Regs, pairRegs]) v
  | sp => exact h.setSp (by simp [hsp]) v

/-! ### How an instruction completes -/

/-- The three instructions that write `inte` or `halted` (10_state.md R31, R32). -/
def writesHidden : Instr → Bool
  | .ei | .di | .hlt => true
  | _ => false

/-- An instruction that gives a next state ends in one of these ways: at the next instruction or at a target, after a
body within its footprint; or it is one of `HLT`, `DI`, `EI`. -/
inductive Completes (i : Instr) (s : State) : State → Prop
  | next {u : State} (hu : Within (footprint i s) s u) (hi : writesHidden i = false) :
      Completes i s (u.advance i.length)
  | jump {u : State} (hu : Within (footprint i s) s u) (hi : writesPc i = true) (target : Word) :
      Completes i s (u.jump target)
  | hlt (hi : i = .hlt) : Completes i s { s.advance i.length with halted := true }
  | di (hi : i = .di) : Completes i s { s.advance i.length with inte := false }
  | ei (hi : i = .ei) : Completes i s { s.advance i.length with inte := true, intInhibit := true }

section Shared

/-! Each shared operation of the meanings completes the instruction it is the meaning of, whenever the tables give
that instruction the operation's footprint. -/

variable {i : Instr} {s t u : State}

theorem Completes.of_advance {len : Nat} (h : (.next (u.advance len) : Result) = .next t)
    (hu : Within (footprint i s) s u) (hlen : i.length = len) (hi : writesHidden i = false) : Completes i s t := by
  cases h
  subst hlen
  exact .next hu hi

theorem Completes.of_jump {target : Word} (h : (.next (u.jump target) : Result) = .next t)
    (hu : Within (footprint i s) s u) (hi : writesPc i = true) : Completes i s t := by
  cases h
  exact .jump hu hi target

theorem completes_noOperation (h : noOperation s = .next t) (hlen : i.length = 1) (hi : writesHidden i = false) :
    Completes i s t :=
  .of_advance h (.refl _ s) hlen hi

theorem completes_move {dst src : Operand8} (h : move dst src s = .next t)
    (hfp : footprint i s = ⟨.none, dst.regs, false, dst.bytes s⟩) (hlen : i.length = 1)
    (hi : writesHidden i = false) : Completes i s t := by
  refine .of_advance h (((Within.refl _ s).readOperand src).writeOperand ?_ ?_ _) hlen hi
  · rw [hfp]
  · rw [hfp]; cases dst <;> simp [Operand8.bytes]

theorem completes_moveImm {dst : Operand8} {d8 : Byte} (h : moveImm dst d8 s = .next t)
    (hfp : footprint i s = ⟨.none, dst.regs, false, dst.bytes s⟩) (hlen : i.length = 2)
    (hi : writesHidden i = false) : Completes i s t :=
  .of_advance h ((Within.refl _ s).writeOperand (by rw [hfp]) (by rw [hfp]) d8) hlen hi

theorem completes_loadA {a : Word} {len : Nat} (h : loadA a len s = .next t)
    (hfp : footprint i s = ⟨.none, [.a], false, []⟩) (hlen : i.length = len)
    (hi : writesHidden i = false) : Completes i s t :=
  .of_advance h (((Within.refl _ s).memRead a).setReg (by simp [hfp]) _) hlen hi

theorem completes_storeA {a : Word} {len : Nat} (h : storeA a len s = .next t)
    (hfp : footprint i s = ⟨.none, [], false, [a]⟩) (hlen : i.length = len)
    (hi : writesHidden i = false) : Completes i s t :=
  .of_advance h ((Within.refl _ s).memWrite (by simp [hfp]) _) hlen hi

theorem completes_accumulate {op : AluOp} {b : Byte} {len : Nat} (h : accumulate op b len u = .next t)
    (hu : Within (footprint i s) s u) (hfp : footprint i s = ⟨.all, if writesA op then [.a] else [], false, []⟩)
    (hlen : i.length = len) (hi : writesHidden i = false) : Completes i s t := by
  have hall : ∀ f, (footprint i s).flags.Kept u.flags f := fun f => by rw [hfp]; exact FlagSet.kept_all _ _
  refine .of_advance h ?_ hlen hi
  by_cases ha : writesA op = true
  · simp only [if_pos ha]
    exact (hu.setReg (r := .a) (by simp [hfp, ha]) _).setFlags (hall _)
  · simp only [if_neg ha]
    exact hu.setFlags (hall _)

theorem completes_accumulateWith {op : AluOp} {src : Operand8} (h : accumulateWith op src s = .next t)
    (hfp : footprint i s = ⟨.all, if writesA op then [.a] else [], false, []⟩) (hlen : i.length = 1)
    (hi : writesHidden i = false) : Completes i s t :=
  completes_accumulate h ((Within.refl _ s).readOperand src) hfp hlen hi

theorem completes_increment {o : Operand8} (h : increment o s = .next t)
    (hfp : footprint i s = ⟨.szap, o.regs, false, o.bytes s⟩) (hlen : i.length = 1)
    (hi : writesHidden i = false) : Completes i s t := by
  refine .of_advance h ((((Within.refl _ s).readOperand o).writeOperand ?_ ?_ _).setFlags ?_) hlen hi
  · rw [hfp]
  · rw [hfp]; cases o <;> simp [Operand8.bytes]
  · rw [hfp]; exact FlagSet.kept_szap (incFlags_c _ _)

theorem completes_decrement {o : Operand8} (h : decrement o s = .next t)
    (hfp : footprint i s = ⟨.szap, o.regs, false, o.bytes s⟩) (hlen : i.length = 1)
    (hi : writesHidden i = false) : Completes i s t := by
  refine .of_advance h ((((Within.refl _ s).readOperand o).writeOperand ?_ ?_ _).setFlags ?_) hlen hi
  · rw [hfp]
  · rw [hfp]; cases o <;> simp [Operand8.bytes]
  · rw [hfp]; exact FlagSet.kept_szap (decFlags_c _ _)

theorem completes_rotate {r : Byte × Bool} (h : rotate r s = .next t)
    (hfp : footprint i s = ⟨.carry, [.a], false, []⟩) (hlen : i.length = 1)
    (hi : writesHidden i = false) : Completes i s t :=
  .of_advance h (((Within.refl _ s).setReg (by simp [hfp]) _).setCarry (by rw [hfp]) _) hlen hi

theorem completes_setPair16 {p : Pair16} {v : Word} {len : Nat}
    (h : (.next ((s.setPair16 p v).advance len) : Result) = .next t)
    (hfp : footprint i s = ⟨.none, pair16Regs p, decide (p = .sp), []⟩) (hlen : i.length = len)
    (hi : writesHidden i = false) : Completes i s t :=
  .of_advance h ((Within.refl _ s).setPair16 (by rw [hfp]) (by rw [hfp]) v) hlen hi

theorem completes_dadPair {p : Pair16} (h : dadPair p s = .next t)
    (hfp : footprint i s = ⟨.carry, [.h, .l], false, []⟩) (hlen : i.length = 1)
    (hi : writesHidden i = false) : Completes i s t := by
  refine .of_advance h (((Within.refl _ s).setPair ?_ ?_ _).setFlags ?_) hlen hi
  · simp [hfp, hiReg]
  · simp [hfp, loReg]
  · rw [hfp]; exact FlagSet.kept_carry _ _

theorem completes_pushValue {v : Word} (h : pushValue v s = .next t)
    (hfp : footprint i s = ⟨.none, [], true, stackBytes s⟩) (hlen : i.length = 1)
    (hi : writesHidden i = false) : Completes i s t :=
  .of_advance h
    ((Within.refl _ s).push (by rw [hfp]) (by simp [hfp, stackBytes]) (by simp [hfp, stackBytes]) v) hlen hi

theorem completes_popPair {p : Pair} (h : popPair p s = .next t)
    (hfp : footprint i s = ⟨.none, pairRegs p, true, []⟩) (hlen : i.length = 1)
    (hi : writesHidden i = false) : Completes i s t :=
  .of_advance h
    (((Within.refl _ s).pop (by rw [hfp])).setPair (by simp [hfp, pairRegs]) (by simp [hfp, pairRegs]) _) hlen hi

theorem completes_loadHL {a : Word} (h : loadHL a s = .next t)
    (hfp : footprint i s = ⟨.none, [.h, .l], false, []⟩) (hlen : i.length = 3)
    (hi : writesHidden i = false) : Completes i s t :=
  .of_advance h
    (((((Within.refl _ s).memRead a).memRead _).setReg (by simp [hfp]) _).setReg (by simp [hfp]) _) hlen hi

theorem completes_exchangeTop (h : exchangeTop s = .next t)
    (hfp : footprint i s = ⟨.none, [.h, .l], false, [s.sp, s.sp + 1]⟩) (hlen : i.length = 1)
    (hi : writesHidden i = false) : Completes i s t := by
  have hread : Within (footprint i s) s ((s.memRead s.sp).2.memRead (s.sp + 1)).2 :=
    ((Within.refl _ s).memRead _).memRead _
  have hwrite := (hread.memWrite (a := s.sp + 1) (by simp [hfp]) s.regs.h).memWrite (a := s.sp) (by simp [hfp])
    s.regs.l
  exact .of_advance h ((hwrite.setReg (by simp [hfp]) _).setReg (by simp [hfp]) _) hlen hi

theorem completes_callNext {target : Word} {len : Nat} (h : callNext target len s = .next t)
    (hfp : footprint i s = ⟨.none, [], true, stackBytes s⟩) (hi : writesPc i = true) : Completes i s t :=
  .of_jump h
    ((Within.refl _ s).push (by rw [hfp]) (by simp [hfp, stackBytes]) (by simp [hfp, stackBytes]) _) hi

theorem completes_ret (h : (.next s.ret : Result) = .next t)
    (hfp : footprint i s = ⟨.none, [], true, []⟩) (hi : writesPc i = true) : Completes i s t :=
  .of_jump h ((Within.refl _ s).pop (by rw [hfp])) hi

theorem completes_jumpIf {cc : Cond} {a16 : Word} (h : jumpIf cc a16 s = .next t)
    (hlen : i.length = 3) (hi : writesHidden i = false) (hpc : writesPc i = true) : Completes i s t := by
  rcases jumpIf_next h with ⟨-, rfl⟩ | ⟨-, rfl⟩
  · exact .of_jump rfl (.refl _ s) hpc
  · exact .of_advance rfl (.refl _ s) hlen hi

theorem completes_callIf {cc : Cond} {a16 : Word} (h : callIf cc a16 s = .next t)
    (hfp : footprint i s = ⟨.none, [], true, if s.flags.cond cc then stackBytes s else []⟩)
    (hlen : i.length = 3) (hi : writesHidden i = false) (hpc : writesPc i = true) : Completes i s t := by
  rcases callIf_next h with ⟨hc, rfl⟩ | ⟨-, rfl⟩
  · rw [if_pos hc] at hfp
    exact completes_callNext (len := 3) rfl hfp hpc
  · exact .of_advance rfl (.refl _ s) hlen hi

theorem completes_returnIf {cc : Cond} (h : returnIf cc s = .next t)
    (hfp : footprint i s = ⟨.none, [], true, []⟩) (hlen : i.length = 1) (hi : writesHidden i = false)
    (hpc : writesPc i = true) : Completes i s t := by
  rcases returnIf_next h with ⟨-, rfl⟩ | ⟨-, rfl⟩
  · exact completes_ret rfl hfp hpc
  · exact .of_advance rfl (.refl _ s) hlen hi

end Shared

/-- Every instruction completes within the footprint the tables list for it. One arm for each shared operation: the
equations given to it, all by evaluation, are the instruction's footprint and length and the columns `writesHidden` and
`writesPc`. -/
theorem exec_completes {i : Instr} {s t : State} (h : exec i s = .next t) : Completes i s t := by
  cases i with
  | nop => exact completes_noOperation h rfl rfl
  | altNop08 | altNop10 | altNop18 | altNop20 | altNop28 | altNop30 | altNop38 =>
    exact completes_noOperation (altOpcode_next h).2 rfl rfl
  | movBB | movBC | movBD | movBE | movBH | movBL | movBM | movBA | movCB | movCC | movCD | movCE | movCH | movCL
  | movCM | movCA | movDB | movDC | movDD | movDE | movDH | movDL | movDM | movDA | movEB | movEC | movED | movEE
  | movEH | movEL | movEM | movEA | movHB | movHC | movHD | movHE | movHH | movHL | movHM | movHA | movLB | movLC
  | movLD | movLE | movLH | movLL | movLM | movLA | movMB | movMC | movMD | movME | movMH | movML | movMA | movAB
  | movAC | movAD | movAE | movAH | movAL | movAM | movAA =>
    exact completes_move h rfl rfl rfl
  | mviB | mviC | mviD | mviE | mviH | mviL | mviM | mviA =>
    exact completes_moveImm h ((footprint_of_encode rfl s).trans rfl) rfl rfl
  | ldaxB | ldaxD => exact completes_loadA h rfl rfl rfl
  | lda => exact completes_loadA h ((footprint_of_encode rfl s).trans rfl) rfl rfl
  | staxB | staxD => exact completes_storeA h rfl rfl rfl
  | sta => exact completes_storeA h ((footprint_of_encode rfl s).trans rfl) rfl rfl
  | addB | addC | addD | addE | addH | addL | addM | addA | adcB | adcC | adcD | adcE | adcH | adcL | adcM | adcA
  | subB | subC | subD | subE | subH | subL | subM | subA | sbbB | sbbC | sbbD | sbbE | sbbH | sbbL | sbbM | sbbA
  | anaB | anaC | anaD | anaE | anaH | anaL | anaM | anaA | xraB | xraC | xraD | xraE | xraH | xraL | xraM | xraA
  | oraB | oraC | oraD | oraE | oraH | oraL | oraM | oraA | cmpB | cmpC | cmpD | cmpE | cmpH | cmpL | cmpM | cmpA =>
    exact completes_accumulateWith h rfl rfl rfl
  | adi | aci | sui | sbi | ani | xri | ori | cpi =>
    exact completes_accumulate h (.refl _ s) ((footprint_of_encode rfl s).trans rfl) rfl rfl
  | inrB | inrC | inrD | inrE | inrH | inrL | inrM | inrA => exact completes_increment h rfl rfl rfl
  | dcrB | dcrC | dcrD | dcrE | dcrH | dcrL | dcrM | dcrA => exact completes_decrement h rfl rfl rfl
  | rlc | rrc | ral | rar => exact completes_rotate h rfl rfl rfl
  | daa =>
    exact .of_advance h (((Within.refl _ s).setReg (List.mem_singleton_self _) _).setFlags (FlagSet.kept_all _ _))
      rfl rfl
  | cma => exact .of_advance h ((Within.refl _ s).setReg (List.mem_singleton_self _) _) rfl rfl
  | stc | cmc => exact .of_advance h ((Within.refl _ s).setCarry rfl _) rfl rfl
  | lxiB | lxiD | lxiH | lxiSp =>
    exact completes_setPair16 h ((footprint_of_encode rfl s).trans rfl) rfl rfl
  | inxB | inxD | inxH | inxSp | dcxB | dcxD | dcxH | dcxSp =>
    exact completes_setPair16 h rfl rfl rfl
  | dadB | dadD | dadH | dadSp => exact completes_dadPair h rfl rfl rfl
  | lhld => exact completes_loadHL h ((footprint_of_encode rfl s).trans rfl) rfl rfl
  | shld => exact .of_advance h (((Within.refl _ s).memWrite (.head _) _).memWrite (.tail _ (.head _)) _) rfl rfl
  | pushB | pushD | pushH | pushPsw => exact completes_pushValue h rfl rfl rfl
  | popB | popD | popH => exact completes_popPair h rfl rfl rfl
  | popPsw => exact .of_advance h (((Within.refl _ s).pop rfl).setPsw (List.mem_singleton_self _) rfl _) rfl rfl
  | sphl => exact .of_advance h ((Within.refl _ s).setSp rfl _) rfl rfl
  | xthl => exact completes_exchangeTop h rfl rfl rfl
  | xchg =>
    have hregs : (footprint .xchg s).regs = [.d, .e, .h, .l] := rfl
    refine .of_advance h (((Within.refl _ s).setPair ?_ ?_ _).setPair ?_ ?_ _) rfl rfl <;>
      simp [hregs, hiReg, loReg]
  | jmp | pchl => exact .of_jump h (.refl _ s) rfl
  | altJmpCB => exact .of_jump (altOpcode_next h).2 (.refl _ s) rfl
  | jnz | jz | jnc | jc | jpo | jpe | jp | jm => exact completes_jumpIf h rfl rfl rfl
  | call => exact completes_callNext h ((footprint_of_encode rfl s).trans rfl) rfl
  | rst0 | rst1 | rst2 | rst3 | rst4 | rst5 | rst6 | rst7 => exact completes_callNext h rfl rfl
  | altCallDD | altCallED | altCallFD =>
    exact completes_callNext (altOpcode_next h).2 ((footprint_of_encode rfl s).trans rfl) rfl
  | cnz | cz | cnc | cc | cpo | cpe | cp | cm =>
    exact completes_callIf h ((footprint_of_encode rfl s).trans rfl) rfl rfl rfl
  | ret => exact completes_ret h rfl rfl
  | altRetD9 => exact completes_ret (altOpcode_next h).2 rfl rfl
  | rnz | rz | rnc | rc | rpo | rpe | rp | rm => exact completes_returnIf h rfl rfl rfl rfl
  | outPort => exact .of_advance h ((Within.refl _ s).portWrite _ _) rfl rfl
  | inPort => exact .of_advance h (((Within.refl _ s).portRead _).setReg (List.mem_singleton_self _) _) rfl rfl
  | hlt => cases h; exact .hlt rfl
  | di => cases h; exact .di rfl
  | ei => cases h; exact .ei rfl

/-! ### What follows for every instruction -/

/-- Where an instruction ends, it is within its footprint, but for the hidden bits and `pc`. -/
theorem Completes.frame {i : Instr} {s t : State} (h : Completes i s t) :
    (flagsAffected i.opcode).Kept s.flags t.flags ∧
    (∀ r : Reg, r ∉ writtenRegs i → t.regs.get r = s.regs.get r) ∧ (writesSp i = false → t.sp = s.sp) ∧
    (∀ a : Word, a ∉ storedBytes i s → t.mem.read a = s.mem.read a) := by
  cases h with
  | next hu _ => exact ⟨hu.flags, hu.regs, hu.sp, hu.mem⟩
  | jump hu _ _ => exact ⟨hu.flags, hu.regs, hu.sp, hu.mem⟩
  | hlt _ | di _ | ei _ => simp

theorem Completes.sameRun {i : Instr} {s t : State} (h : Completes i s t) : SameRun s t := by
  cases h with
  | next hu _ => exact hu.run.trans (.of_eq rfl rfl)
  | jump hu _ _ => exact hu.run.trans (.of_eq rfl rfl)
  | hlt _ | di _ | ei _ => exact .of_eq rfl rfl

theorem Completes.pc {i : Instr} {s t : State} (h : Completes i s t) (hi : writesPc i = false) :
    t.pc = s.pc + BitVec.ofNat 16 i.length := by
  cases h with
  | next hu _ => simp [hu.pc]
  | jump _ hj _ => simp [hi] at hj
  | hlt _ | di _ | ei _ => simp

/-- All but `EI`, `DI` and `HLT` keep `inte` and `halted` and leave `int_inhibit` 0 (10_state.md R31 to R33). -/
theorem Completes.hidden_kept {i : Instr} {s t : State} (h : Completes i s t) (hi : writesHidden i = false) :
    t.inte = s.inte ∧ t.halted = s.halted ∧ t.intInhibit = false := by
  cases h with
  | next hu _ => exact ⟨hu.inte, hu.halted, rfl⟩
  | jump hu _ _ => exact ⟨hu.inte, hu.halted, rfl⟩
  | hlt h | di h | ei h => simp [h, writesHidden] at hi

/-! ### One step (60_exceptions.md R283) -/

/-- The four cases of a step that gives a next state, in their order of precedence. -/
theorem step_next {s t : State} (h : step s = .next t) :
    (s.atBoundary.reset = true ∧ t = s.pastBoundary.resetEvent) ∨
    (∃ q, s.acceptedRequest = some q ∧ acceptInterrupt q s.pastBoundary = .next t) ∨
    (s.acceptedRequest = none ∧ s.halted = true ∧ t = s.pastBoundary) ∨
    (s.atBoundary.reset = false ∧ s.acceptedRequest = none ∧ s.halted = false ∧
      exec s.pastBoundary.fetch.1 s.pastBoundary.fetch.2 = .next t) := by
  unfold step at h
  split at h
  · next hr => cases h; exact .inl ⟨hr, rfl⟩
  · next hr =>
    split at h
    · next q hq => exact .inr (.inl ⟨q, hq, h⟩)
    · next hq =>
      split at h
      · next hh => cases h; exact .inr (.inr (.inl ⟨hq, hh, rfl⟩))
      · next hh => exact .inr (.inr (.inr ⟨by simpa using hr, hq, by simpa using hh, h⟩))

theorem acceptInterrupt_sameRun {q : Supply} {s t : State} (h : acceptInterrupt q s = .next t) : SameRun s t := by
  obtain ⟨target, -, rfl⟩ := acceptInterrupt_next h
  have hcleared : SameRun s { s with inte := false, halted := false } := .of_eq rfl rfl
  exact hcleared.trans (.call _ target s.pc)

theorem acceptInterrupt_flags {q : Supply} {s t : State} (h : acceptInterrupt q s = .next t) :
    t.flags = s.flags := by
  obtain ⟨target, -, rfl⟩ := acceptInterrupt_next h
  simp

/-- A step uses up the boundary's entry and goes on with the run. -/
theorem step_sameRun {s t : State} (h : step s = .next t) : SameRun s.pastBoundary t := by
  obtain ⟨-, rfl⟩ | ⟨q, -, hq⟩ | ⟨-, -, rfl⟩ | ⟨-, -, -, he⟩ := step_next h
  · exact .of_eq rfl rfl
  · exact acceptInterrupt_sameRun hq
  · exact .refl _
  · exact (SameRun.fetch _).trans (exec_completes he).sameRun

/-! ### The statements of 10_state.md -/

/-- The chart's flag column as R29 lists it. -/
theorem flagsAffected_eq (op : Byte) : flagsAffected op =
    if (0x80 ≤ op.toNat ∧ op.toNat < 0xC0) ∨
        op ∈ ([0xC6, 0xCE, 0xD6, 0xDE, 0xE6, 0xEE, 0xF6, 0xFE, 0x27, 0xF1] : List Byte) then .all
    else if op ∈ ([0x04, 0x0C, 0x14, 0x1C, 0x24, 0x2C, 0x34, 0x3C, 0x05, 0x0D, 0x15, 0x1D, 0x25, 0x2D, 0x35,
        0x3D] : List Byte) then .szap
    else if op ∈ ([0x07, 0x0F, 0x17, 0x1F, 0x37, 0x3F, 0x09, 0x19, 0x29, 0x39] : List Byte) then .carry
    else .none := by
  revert op
  decide

/-- Settles O20: the chart by evaluation of its 256 entries; the flags kept from `exec_completes`. -/
theorem unaffectedFlagsKept : Obligations.UnaffectedFlagsKept := by
  refine ⟨flagsAffected_eq, fun i s t h => (exec_completes h).frame.1, ?_⟩
  intro s t hcase h
  obtain ⟨-, rfl⟩ | ⟨q, -, hq⟩ | ⟨-, -, rfl⟩ | ⟨hreset, hnone, -, -⟩ := step_next h
  · rfl
  · simpa using acceptInterrupt_flags hq
  · rfl
  · simp [hreset, hnone] at hcase

/-- Settles O21: only a jump ends elsewhere than at the next instruction. -/
theorem pcAdvancesByLength : Obligations.PcAdvancesByLength :=
  fun _ _ _ h hi => (exec_completes h).pc hi

/-- Settles O22: a step is an extension of the run behind the boundary it passed. -/
theorem parametersFixedTraceGrows : Obligations.ParametersFixedTraceGrows := by
  intro s t h
  obtain ⟨hcfg, hboundary, events, htrace⟩ := step_sameRun h
  exact ⟨hcfg, hboundary, events, htrace.symm⟩

/-- Settles O23, from the frame of `exec_completes`. -/
theorem registerFrame : Obligations.RegisterFrame := by
  intro i s t h
  obtain ⟨-, hregs, hsp, -⟩ := (exec_completes h).frame
  exact ⟨hregs, hsp⟩

/-- Settles O24, from the frame of `exec_completes`. -/
theorem memoryFrame : Obligations.MemoryFrame := by
  intro i s t h
  obtain ⟨-, -, -, hmem⟩ := (exec_completes h).frame
  exact hmem

/-- Settles O25: `HLT`, `DI` and `EI` by what they do, every other instruction by `Completes.hidden_kept`. -/
theorem hiddenBitWriters : Obligations.HiddenBitWriters := by
  intro i s t h
  by_cases hi : writesHidden i = true
  · unfold writesHidden at hi
    split at hi
    · cases h; simp
    · cases h; simp
    · cases h; simp
    · cases hi
  · have hi : writesHidden i = false := by simpa using hi
    obtain ⟨hinte, hhalted, hinhibit⟩ := (exec_completes h).hidden_kept hi
    have hei : i ≠ .ei := by rintro rfl; cases hi
    have hdi : i ≠ .di := by rintro rfl; cases hi
    have hhlt : i ≠ .hlt := by rintro rfl; cases hi
    simp [hei, hdi, hhlt, hinte, hhalted, hinhibit]

/-- Settles O15: a fixed state, read off its definition. -/
theorem resetState : Obligations.ResetState :=
  ⟨rfl, rfl, rfl, rfl, fun _ => rfl, State.reset_mem_wf, nofun, nofun⟩

/-- The byte F as a number: each flag weighs its bit of `S Z 0 A 0 P 1 C`. -/
theorem Flags.toNat_toByte (f : Flags) : f.toByte.toNat =
    128 * f.s.toNat + 64 * f.z.toNat + 16 * f.a.toNat + 4 * f.p.toNat + 2 + f.c.toNat := by
  obtain ⟨s, z, a, p, c⟩ := f
  revert s z a p c
  decide

/-- Loading the byte F gives the flags it was read from. -/
theorem Flags.ofByte_toByte (f : Flags) : Flags.ofByte f.toByte = f := by
  obtain ⟨s, z, a, p, c⟩ := f
  revert s z a p c
  decide

/-- Settles O36: the layout written, the layout read, and the two composed. -/
theorem flagByteLayout : Obligations.FlagByteLayout :=
  ⟨Flags.toNat_toByte, fun _ => ⟨rfl, rfl, rfl, rfl, rfl⟩, Flags.ofByte_toByte⟩

end Sys2Proof.Machine

/-! PROOFS for the family 20_memory.md: what a byte access does at an address of each class, what the canonical form
determines, the stack over RAM, what a fetch reads, and that no step changes a byte outside RAM. -/

namespace Sys2Proof.Machine

/-! ### What the updates keep of the memory map -/

@[simp] theorem State.advance_memClass (s : State) (len : Nat) (a : Word) :
    (s.advance len).memClass a = s.memClass a := rfl

@[simp] theorem State.pastBoundary_memClass (s : State) (a : Word) : s.pastBoundary.memClass a = s.memClass a := rfl

@[simp] theorem State.push_memClass (s : State) (v a : Word) : (s.push v).memClass a = s.memClass a := by
  simp [State.memClass]

@[simp] theorem State.readOperand_memClass (s : State) (o : Operand8) (a : Word) :
    (s.readOperand o).2.memClass a = s.memClass a := by
  simp [State.memClass]

@[simp] theorem State.fetch_memClass (s : State) (a : Word) : s.fetch.2.memClass a = s.memClass a := by
  simp [State.memClass]

/-! ### Byte accesses, class by class (20_memory.md R51, R66) -/

@[simp] theorem State.draw_trace (s : State) : s.draw.2.plat.trace = s.plat.trace := by
  unfold State.draw
  split <;> rfl

/-- A draw changes the platform's side alone. -/
theorem State.draw_frame (s : State) : { s.draw.2 with plat := s.plat } = s := by
  unfold State.draw
  split <;> rfl

theorem State.memWrite_rom (s : State) (a : Word) (v : Byte) (h : s.memClass a = .rom) : s.memWrite a v = s := by
  simp [State.memWrite, h]

theorem State.memWrite_device (s : State) (a : Word) (v : Byte) (h : s.memClass a = .device) :
    s.memWrite a v = s.record (.deviceWrite a v) := by
  simp [State.memWrite, h]

theorem State.memWrite_absent (s : State) (a : Word) (v : Byte) (h : s.memClass a = .absent) :
    s.memWrite a v = s := by
  simp [State.memWrite, h]

/-- A byte written to RAM is read back. -/
theorem State.memWrite_read_same (s : State) (a : Word) (v : Byte) (h : s.memClass a = .ram) :
    (s.memWrite a v).mem.read a = v := by
  rw [State.memWrite_ram s a v h, Memory.read_write_same]

/-- Settles O27: for each class of address, what a read and a write come to. -/
theorem memoryClasses : Obligations.MemoryClasses := by
  intro s a v
  refine ⟨fun hram => ?_, fun hrom => ?_, fun hdevice => ?_, fun habsent => ?_⟩
  · refine ⟨s.memRead_plain a (.inl hram), s.memWrite_read_same a v hram,
      fun b hb => s.memWrite_read_ne v hb, ?_⟩
    rw [s.memWrite_ram a v hram]
  · exact ⟨s.memRead_plain a (.inr hrom), s.memWrite_rom a v hrom⟩
  · rw [s.memRead_device a hdevice]
    exact ⟨rfl, by simp, s.draw_frame, s.memWrite_device a v hdevice⟩
  · rw [s.memRead_absent a habsent]
    exact ⟨rfl, s.draw_frame, s.memWrite_absent a v habsent⟩

/-! ### The canonical form determines the memory (20_memory.md R50; log 2) -/

theorem Memory.cellAt_cons_self (k : Nat) (v : Byte) (m : Memory) : Memory.cellAt ((k, v) :: m) k = some v :=
  if_pos rfl

theorem Memory.cellAt_cons_ne {k a : Nat} (v : Byte) (m : Memory) (h : k ≠ a) :
    Memory.cellAt ((k, v) :: m) a = m.cellAt a :=
  if_neg h

/-- No byte is listed at an address that no cell has. -/
theorem Memory.cellAt_eq_none {m : Memory} {a : Nat} (h : ∀ c ∈ m, c.1 ≠ a) : m.cellAt a = none := by
  induction m with
  | nil => rfl
  | cons c rest ih =>
    obtain ⟨k, v⟩ := c
    rw [Memory.cellAt_cons_ne v rest (h (k, v) List.mem_cons_self)]
    exact ih fun d hd => h d (List.mem_cons_of_mem _ hd)

/-- Behind its first cell a rising list lists nothing at or below that cell's address. -/
theorem Memory.cellAt_tail_eq_none {c : Host.Cell} {m : Memory} {a : Nat} (h : Memory.rising (c :: m) = true)
    (ha : a ≤ c.1) : m.cellAt a = none :=
  Memory.cellAt_eq_none fun d hd => (Nat.lt_of_le_of_lt ha (Memory.rising_head_lt h d hd)).ne'

/-- A rising list lists nothing below its first address. -/
theorem Memory.cellAt_eq_none_of_lt_head {c : Host.Cell} {m : Memory} {a : Nat} (h : Memory.rising (c :: m) = true)
    (ha : a < c.1) : Memory.cellAt (c :: m) a = none := by
  rw [Memory.cellAt_cons_ne c.2 m ha.ne', Memory.cellAt_tail_eq_none h ha.le]

/-- Two rising lists that list the same bytes are equal: the first addresses agree, since the smaller one would be
listed by one list alone. -/
theorem Memory.eq_of_cellAt_eq {m n : Memory} (hm : Memory.rising m = true) (hn : Memory.rising n = true)
    (h : ∀ a : Nat, m.cellAt a = n.cellAt a) : m = n := by
  induction m generalizing n with
  | nil =>
    cases n with
    | nil => rfl
    | cons d n => simpa [Memory.cellAt] using h d.1
  | cons c m ih =>
    cases n with
    | nil => simpa [Memory.cellAt] using h c.1
    | cons d n =>
      obtain ⟨k, v⟩ := c
      obtain ⟨l, w⟩ := d
      have hkl : k = l := by
        rcases Nat.lt_trichotomy k l with hlt | heq | hgt
        · have hk := h k
          rw [Memory.cellAt_cons_self, Memory.cellAt_eq_none_of_lt_head hn hlt] at hk
          cases hk
        · exact heq
        · have hl := h l
          rw [Memory.cellAt_cons_self, Memory.cellAt_eq_none_of_lt_head hm hgt] at hl
          cases hl
      subst hkl
      have hvw : v = w := by simpa [Memory.cellAt_cons_self] using h k
      have htails : m = n := ih (Memory.rising_tail hm) (Memory.rising_tail hn) fun a => by
        by_cases hak : a = k
        · rw [Memory.cellAt_tail_eq_none hm hak.le, Memory.cellAt_tail_eq_none hn hak.le]
        · simpa [Memory.cellAt_cons_ne _ _ (Ne.symm hak)] using h a
      rw [hvw, htails]

theorem Memory.wf_iff {m : Memory} :
    m.wf = true ↔ Memory.rising m = true ∧ ∀ c ∈ m, c.1 < 65536 := by
  simp [Memory.wf]

/-- A canonical memory lists nothing past the 65,536 addresses. -/
theorem Memory.cellAt_of_wf_ge {m : Memory} {a : Nat} (h : m.wf = true) (ha : 65536 ≤ a) : m.cellAt a = none := by
  obtain ⟨-, hbound⟩ := Memory.wf_iff.mp h
  exact Memory.cellAt_eq_none fun c hc => (Nat.lt_of_lt_of_le (hbound c hc) ha).ne

/-- Settles O28: past the 65,536 addresses neither lists anything, so they agree everywhere. -/
theorem canonicalMemoriesEqual : Obligations.CanonicalMemoriesEqual := by
  intro m n hm hn h
  obtain ⟨hrising, -⟩ := Memory.wf_iff.mp hm
  obtain ⟨hrising', -⟩ := Memory.wf_iff.mp hn
  refine Memory.eq_of_cellAt_eq hrising hrising' fun a => ?_
  by_cases ha : a < 65536
  · simpa [Nat.mod_eq_of_lt ha] using h (BitVec.ofNat 16 a)
  · rw [Memory.cellAt_of_wf_ge hm (Nat.not_lt.mp ha), Memory.cellAt_of_wf_ge hn (Nat.not_lt.mp ha)]

/-! ### The stack over RAM (20_memory.md R53) -/

/-- Over RAM a pop takes back what a push put: the bytes it reads are the two the push wrote. -/
theorem State.pop_push (s : State) (v : Word) (h1 : s.memClass (s.sp - 1) = .ram)
    (h2 : s.memClass (s.sp - 2) = .ram) : (s.push v).pop = (v, { s.push v with sp := s.sp }) := by
  obtain ⟨hlow, hhigh⟩ := s.push_read_ram v h1 h2
  have hnext : s.sp - 2 + 1 = s.sp - 1 := by bv_omega
  have hback : s.sp - 2 + 2 = s.sp := by bv_omega
  rw [State.pop_plain _ (.inl (by simpa using h2))
    (.inl (by rw [State.push_memClass, State.push_sp, hnext, h1]))]
  simp only [State.push_sp, hnext, hback, hlow, hhigh, wordOf_hiByte_loByte]

/-- Settles O29: where the push wrote, and the pop of it. -/
theorem pushThenPop : Obligations.PushThenPop := by
  intro s v h1 h2
  obtain ⟨hlow, hhigh⟩ := s.push_read_ram v h1 h2
  exact ⟨hhigh, hlow, rfl, s.pop_push v h1 h2⟩

/-! ### Decoding and fetching (20_memory.md R52, R55, R68, 30_encoding.md R92) -/

/-- An instruction is one, two or three bytes long. -/
theorem opLength_cases (op : Byte) : opLength op = 1 ∨ opLength op = 2 ∨ opLength op = 3 := by
  unfold opLength
  split
  · exact .inr (.inl rfl)
  · split
    · exact .inr (.inr rfl)
    · exact .inl rfl

/-- The bytes an opcode and the bytes read behind it make up, a 16-bit operand low byte first (30_encoding.md R81). -/
def instrBytes (op b2 b3 : Byte) : List Byte :=
  match opLength op with
  | 1 => [op]
  | 2 => [op, b2]
  | _ => [op, loByte (wordOf b3 b2), hiByte (wordOf b3 b2)]

/-- One row of the opcode map against the encoder, by evaluation of its 16 columns with the operands left open. -/
theorem encode_decodeOp_row (row : Fin 16) (b2 b3 : Byte) :
    (List.finRange 16).map (fun col : Fin 16 => encode (decodeOp (BitVec.ofNat 8 (16 * row + col)) b2 b3)) =
      (List.finRange 16).map fun col : Fin 16 => instrBytes (BitVec.ofNat 8 (16 * row + col)) b2 b3 := by
  fin_cases row <;> rfl

/-- A byte by its row and column in the opcode map. -/
theorem byte_eq_row_col (op : Byte) : ∃ row col : Fin 16, op = BitVec.ofNat 8 (16 * row + col) := by
  refine ⟨⟨op.toNat / 16, by omega⟩, ⟨op.toNat % 16, by omega⟩, ?_⟩
  simp [Nat.div_add_mod]

/-- The decoder and the encoder agree: the instruction decoded from an opcode and two bytes has as its encoding as many
of the three as the opcode's length asks for. -/
theorem encode_decodeOp (op b2 b3 : Byte) : encode (decodeOp op b2 b3) = [op, b2, b3].take (opLength op) := by
  have hbytes : encode (decodeOp op b2 b3) = instrBytes op b2 b3 := by
    obtain ⟨row, col, rfl⟩ := byte_eq_row_col op
    exact List.map_inj_left.mp (encode_decodeOp_row row b2 b3) col (List.mem_finRange col)
  rcases opLength_cases op with h | h | h <;> simp [hbytes, instrBytes, h]

/-- Settles O8, in the three cases of the opcode's length. -/
theorem fetchReadsInOrder : Obligations.FetchReadsInOrder := by
  intro s x1 x2 x3
  rcases opLength_cases x1.1 with h | h | h
  · have hfetch : s.fetch = (decodeOp x1.1 0 0, x1.2) := by simp only [State.fetch, x1, h]
    exact .inl ⟨h, by rw [hfetch, encode_decodeOp, h]; rfl, by rw [hfetch]⟩
  · have hfetch : s.fetch = (decodeOp x1.1 x2.1 0, x2.2) := by simp only [State.fetch, x1, x2, h]
    exact .inr (.inl ⟨h, by rw [hfetch, encode_decodeOp, h]; rfl, by rw [hfetch]⟩)
  · have hfetch : s.fetch = (decodeOp x1.1 x2.1 x3.1, x3.2) := by simp only [State.fetch, x1, x2, x3, h]
    exact .inr (.inr ⟨h, by rw [hfetch, encode_decodeOp, h]; rfl, by rw [hfetch]⟩)

/-- The opcode of the instruction fetched is the byte read at `pc`. -/
theorem State.fetch_opcode (s : State) : s.fetch.1.opcode = (s.memRead s.pc).1 := by
  rcases fetchReadsInOrder s with ⟨-, hbytes, -⟩ | ⟨-, hbytes, -⟩ | ⟨-, hbytes, -⟩ <;>
    rw [Instr.opcode, hbytes, List.headD_cons]

/-- Settles O33: the store is a RAM write at `hl`, and the fetch reads that byte. -/
theorem storeSeenByNextFetch : Obligations.StoreSeenByNextFetch := by
  intro s hhl hram
  refine ⟨(s.memWrite s.hl s.regs.a).advance 1, rfl, by simp, ?_⟩
  have hpc : ((s.memWrite s.hl s.regs.a).advance 1).pc = s.pc + 1 := by simp
  rw [State.fetch_opcode, hpc, State.memRead_plain _ _ (.inl (by simpa using hram)), hhl]
  exact s.memWrite_read_same (s.pc + 1) s.regs.a hram

/-- Settles O6: fixed words, by evaluation. -/
theorem sampleWordsDecode : Obligations.SampleWordsDecode :=
  ⟨rfl, rfl, rfl, rfl, rfl, rfl, rfl, rfl, rfl, rfl, rfl, rfl, rfl, rfl⟩

/-! ### Only RAM changes (20_memory.md R66) -/

theorem State.writeOperand_read_not_ram (s : State) (o : Operand8) (v : Byte) (b : Word) (h : s.memClass b ≠ .ram) :
    (s.writeOperand o v).mem.read b = s.mem.read b := by
  cases o with
  | reg r => rfl
  | m => exact s.memWrite_read_not_ram _ b v h

theorem State.memWrite_memWrite_read_not_ram (s : State) (a b : Word) (v w : Byte) (c : Word)
    (h : s.memClass c ≠ .ram) : ((s.memWrite a v).memWrite b w).mem.read c = s.mem.read c := by
  rw [State.memWrite_read_not_ram _ _ _ _ (by simpa using h), s.memWrite_read_not_ram _ _ _ h]

/-- No instruction changes what is held behind an address outside RAM. The instructions that store do so by `memWrite`
and `push`, which keep such bytes; the others store nothing (`memoryFrame`). -/
theorem exec_read_not_ram {i : Instr} {s t : State} {a : Word} (h : exec i s = .next t) (ha : s.memClass a ≠ .ram) :
    t.mem.read a = s.mem.read a := by
  have hcall {target ret : Word} : (s.call target ret).mem.read a = s.mem.read a := s.push_read_not_ram ret a ha
  have hoperand {o o' : Operand8} {v : Byte} :
      ((s.readOperand o).2.writeOperand o' v).mem.read a = s.mem.read a := by
    rw [State.writeOperand_read_not_ram _ _ _ _ (by simpa using ha), State.readOperand_mem]
  cases i with
  | staxB | staxD | sta => rw [storeA_next h]; exact s.memWrite_read_not_ram _ a _ ha
  | shld a16 =>
    cases h
    exact s.memWrite_memWrite_read_not_ram _ _ _ _ a ha
  | movMB | movMC | movMD | movME | movMH | movML | movMA => rw [move_next h]; exact hoperand
  | mviM => rw [moveImm_next h]; exact s.writeOperand_read_not_ram .m _ a ha
  | inrM => rw [increment_next h]; exact hoperand
  | dcrM => rw [decrement_next h]; exact hoperand
  | pushB | pushD | pushH | pushPsw => rw [pushValue_next h]; exact s.push_read_not_ram _ a ha
  | xthl =>
    rw [exchangeTop_next h]
    simp only [State.advance_mem, State.setReg_mem]
    rw [State.memWrite_memWrite_read_not_ram _ _ _ _ _ a (by simpa using ha), State.memRead_mem, State.memRead_mem]
  | call | rst0 | rst1 | rst2 | rst3 | rst4 | rst5 | rst6 | rst7 => rw [callNext_next h]; exact hcall
  | altCallDD | altCallED | altCallFD => rw [callNext_next (altOpcode_next h).2]; exact hcall
  | cnz | cz | cnc | cc | cpo | cpe | cp | cm =>
    rcases callIf_next h with ⟨-, rfl⟩ | ⟨-, rfl⟩
    · exact hcall
    · rfl
  | _ => exact memoryFrame _ s t h a List.not_mem_nil

/-- Settles O26, in the four cases of a step: of them the acceptance of an interrupt pushes and an instruction is
covered by `exec_read_not_ram`. -/
theorem onlyRamChanges : Obligations.OnlyRamChanges := by
  intro s t a h ha
  obtain ⟨-, rfl⟩ | ⟨q, -, hq⟩ | ⟨-, -, rfl⟩ | ⟨-, -, -, hexec⟩ := step_next h
  · rfl
  · obtain ⟨target, -, rfl⟩ := acceptInterrupt_next hq
    exact State.push_read_not_ram _ _ a ha
  · rfl
  · rw [exec_read_not_ram hexec (by simpa using ha), State.fetch_mem, State.pastBoundary_mem]

end Sys2Proof.Machine

/-! PROOFS for the family 30_encoding.md: the decoder on the three lengths of instruction, its two round trips with the
encoder, the lengths, the fields of the opcode byte, and the alternative opcodes. -/

namespace Sys2Proof.Machine

/-! ### The decoder by the length of the opcode (30_encoding.md R80, R89) -/

theorem decode_of_length_one {op : Byte} (h : opLength op = 1) (rest : List Byte) :
    decode (op :: rest) = .ok (decodeOp op 0 0, rest) := by
  simp only [decode, h]

theorem decode_of_length_two {op : Byte} (h : opLength op = 2) (b2 : Byte) (rest : List Byte) :
    decode (op :: b2 :: rest) = .ok (decodeOp op b2 0, rest) := by
  simp only [decode, h]

theorem decode_of_length_three {op : Byte} (h : opLength op = 3) (b2 b3 : Byte) (rest : List Byte) :
    decode (op :: b2 :: b3 :: rest) = .ok (decodeOp op b2 b3, rest) := by
  simp only [decode, h]

/-- What the decoder does with a list that starts with an opcode: it takes the bytes the opcode asks for, or, where the
list ends before them, says so. -/
theorem decode_cons_cases (op : Byte) (tail : List Byte) :
    (∃ b2 b3 rest, decode (op :: tail) = .ok (decodeOp op b2 b3, rest) ∧
      [op, b2, b3].take (opLength op) ++ rest = op :: tail) ∨
    (tail.length + 1 < opLength op ∧ decode (op :: tail) = .error (.missingOperand op)) := by
  rcases opLength_cases op with h | h | h
  · exact .inl ⟨0, 0, tail, decode_of_length_one h tail, by simp [h]⟩
  · rcases tail with _ | ⟨b2, rest⟩
    · exact .inr ⟨by simp [h], by simp only [decode, h]⟩
    · exact .inl ⟨b2, 0, rest, decode_of_length_two h b2 rest, by simp [h]⟩
  · rcases tail with _ | ⟨b2, _ | ⟨b3, rest⟩⟩
    · exact .inr ⟨by simp [h], by simp only [decode, h]⟩
    · exact .inr ⟨by simp [h], by simp only [decode, h]⟩
    · exact .inl ⟨b2, b3, rest, decode_of_length_three h b2 b3 rest, by simp [h]⟩

theorem decodeOp_opcode (op b2 b3 : Byte) : (decodeOp op b2 b3).opcode = op := by
  rw [Instr.opcode, encode_decodeOp]
  rcases opLength_cases op with h | h | h <;> simp [h]

theorem decodeOp_length (op b2 b3 : Byte) : (decodeOp op b2 b3).length = opLength op := by
  rw [Instr.length, encode_decodeOp]
  rcases opLength_cases op with h | h | h <;> simp [h]

/-! ### The round trips (30_encoding.md R81, R87 to R90) -/

/-- The decoder on a constructor `f` with a 16-bit operand: the two operand bytes make up the word again. -/
theorem decode_encode_word {f : Word → Instr} {op : Byte} (hlen : opLength op = 3)
    (henc : ∀ w, encode (f w) = [op, loByte w, hiByte w]) (hdec : ∀ lo hi, decodeOp op lo hi = f (wordOf hi lo))
    (w : Word) (rest : List Byte) : decode (encode (f w) ++ rest) = .ok (f w, rest) := by
  rw [henc, List.cons_append, List.cons_append, List.cons_append, List.nil_append, decode_of_length_three hlen, hdec,
    wordOf_hiByte_loByte]

/-- Decoding undoes encoding. A constructor with a 16-bit operand needs the bytes of the word put together again; for
the others both functions evaluate. -/
theorem decode_encode (i : Instr) (rest : List Byte) : decode (encode i ++ rest) = .ok (i, rest) := by
  cases i with
  | lxiB w | lxiD w | lxiH w | lxiSp w | shld w | lhld w | sta w | lda w | jmp w | altJmpCB w | jnz w | jz w | jnc w
  | jc w | jpo w | jpe w | jp w | jm w | call w | altCallDD w | altCallED w | altCallFD w | cnz w | cz w | cnc w
  | cc w | cpo w | cpe w | cp w | cm w =>
    exact decode_encode_word rfl (fun _ => rfl) (fun _ _ => rfl) w rest
  | _ => rfl

/-- Settles O1: no instruction is ill formed, and decoding undoes encoding. -/
theorem decodeEncodeRoundTrip : Obligations.DecodeEncodeRoundTrip :=
  fun i rest => ⟨rfl, decode_encode i rest⟩

/-- What the decoder reads is given by the opcode map, and its encoding is the bytes taken. -/
theorem decode_eq_ok {bytes rest : List Byte} {i : Instr} (h : decode bytes = .ok (i, rest)) :
    ∃ op b2 b3, i = decodeOp op b2 b3 ∧ encode i ++ rest = bytes := by
  rcases bytes with _ | ⟨op, tail⟩
  · cases h
  · obtain ⟨b2, b3, rest', hok, hbytes⟩ | ⟨-, herror⟩ := decode_cons_cases op tail
    · rw [hok] at h
      cases h
      exact ⟨op, b2, b3, rfl, by rw [encode_decodeOp, hbytes]⟩
    · rw [herror] at h
      cases h

/-- Settles O2: part of what a successful decoding says. -/
theorem encodeDecodeRoundTrip : Obligations.EncodeDecodeRoundTrip := by
  intro bytes i rest h
  obtain ⟨-, -, -, -, hbytes⟩ := decode_eq_ok h
  exact hbytes

/-- Settles O3: a list that is long enough leaves only the decoder's success, a shorter one only its error. -/
theorem decodeFailsOnlyOnShortInput : Obligations.DecodeFailsOnlyOnShortInput := by
  refine ⟨rfl, fun op tail => ?_⟩
  obtain ⟨b2, b3, rest, hok, hbytes⟩ | ⟨hshort, herror⟩ := decode_cons_cases op tail
  · have hlong : opLength op ≤ tail.length + 1 := by
      have hlength := congrArg List.length hbytes
      rw [← encode_decodeOp, List.length_append, ← Instr.length, decodeOp_length, List.length_cons] at hlength
      omega
    exact ⟨fun _ => ⟨_, rest, hok, decodeOp_opcode op b2 b3⟩, fun hshort => absurd hlong (by omega)⟩
  · exact ⟨fun hlong => absurd hlong (by omega), fun _ => herror⟩

/-- Every instruction is one the opcode map gives, since its encoding decodes to it. -/
theorem exists_eq_decodeOp (i : Instr) : ∃ op b2 b3, i = decodeOp op b2 b3 := by
  obtain ⟨op, b2, b3, hi, -⟩ := decode_eq_ok (decode_encode i [])
  exact ⟨op, b2, b3, hi⟩

/-! ### Lengths (30_encoding.md R80) -/

theorem opLength_eq_two_iff (op : Byte) : opLength op = 2 ↔ op ∈ opcodesOfLength2 := by
  unfold opLength
  split
  · simpa
  · split <;> simpa

theorem not_mem_opcodesOfLength3 {op : Byte} (h2 : op ∈ opcodesOfLength2) : op ∉ opcodesOfLength3 := by
  have hdisjoint : ∀ op ∈ opcodesOfLength2, op ∉ opcodesOfLength3 := by decide
  exact hdisjoint op h2

theorem opLength_eq_three_iff (op : Byte) : opLength op = 3 ↔ op ∈ opcodesOfLength3 := by
  unfold opLength
  split
  · next h2 => simpa using not_mem_opcodesOfLength3 h2
  · split <;> simpa

theorem length_eq_opLength_opcode (i : Instr) : i.length = opLength i.opcode := by
  obtain ⟨op, b2, b3, rfl⟩ := exists_eq_decodeOp i
  rw [decodeOp_length, decodeOp_opcode]

/-- Settles O4: the two lists of the statement are the model's in another order. -/
theorem opcodeLengths : Obligations.OpcodeLengths :=
  ⟨fun op => (opLength_eq_two_iff op).trans (List.Perm.mem_iff (by decide)),
    fun op => (opLength_eq_three_iff op).trans (List.Perm.mem_iff (by decide)),
    opLength_cases, length_eq_opLength_opcode, by decide +kernel, by decide +kernel, by decide +kernel⟩

/-! ### The fields of the opcode byte (30_encoding.md R82 to R86), one equation for each family of the field view -/

theorem inrReg_opcode (r : Reg) : (Instr.inrReg r).opcode.toNat = 0x04 + 8 * r.code := by cases r <;> rfl

theorem dcrReg_opcode (r : Reg) : (Instr.dcrReg r).opcode.toNat = 0x05 + 8 * r.code := by cases r <;> rfl

theorem mviReg_opcode (r : Reg) (d8 : Byte) : (Instr.mviReg r d8).opcode.toNat = 0x06 + 8 * r.code := by
  cases r <;> rfl

theorem movFromM_opcode (r : Reg) : (Instr.movFromM r).opcode.toNat = 0x40 + 8 * r.code + 6 := by cases r <;> rfl

theorem movToM_opcode (r : Reg) : (Instr.movToM r).opcode.toNat = 0x40 + 8 * 6 + r.code := by cases r <;> rfl

theorem movReg_opcode (dst src : Reg) : (Instr.movReg dst src).opcode.toNat = 0x40 + 8 * dst.code + src.code := by
  cases dst <;> cases src <;> rfl

theorem aluReg_opcode (op : AluOp) (r : Reg) :
    (Instr.aluReg op r).opcode.toNat = 0x80 + 8 * op.code + r.code := by
  cases op <;> cases r <;> rfl

theorem aluM_opcode (op : AluOp) : (Instr.aluM op).opcode.toNat = 0x80 + 8 * op.code + 6 := by cases op <;> rfl

theorem aluImm_opcode (op : AluOp) (d8 : Byte) : (Instr.aluImm op d8).opcode.toNat = 0xC6 + 8 * op.code := by
  cases op <;> rfl

theorem lxi_opcode (p : Pair16) (w : Word) : (Instr.lxi p w).opcode.toNat = 0x01 + 16 * p.code := by cases p <;> rfl

theorem inx_opcode (p : Pair16) : (Instr.inx p).opcode.toNat = 0x03 + 16 * p.code := by cases p <;> rfl

theorem dad_opcode (p : Pair16) : (Instr.dad p).opcode.toNat = 0x09 + 16 * p.code := by cases p <;> rfl

theorem dcx_opcode (p : Pair16) : (Instr.dcx p).opcode.toNat = 0x0B + 16 * p.code := by cases p <;> rfl

theorem popPair_opcode (p : Pair) : (Instr.popPair p).opcode.toNat = 0xC1 + 16 * p.code := by cases p <;> rfl

theorem pushPair_opcode (p : Pair) : (Instr.pushPair p).opcode.toNat = 0xC5 + 16 * p.code := by cases p <;> rfl

theorem retIf_opcode (cc : Cond) : (Instr.retIf cc).opcode.toNat = 0xC0 + 8 * cc.code := by cases cc <;> rfl

theorem jumpIf_opcode (cc : Cond) (w : Word) : (Instr.jumpIf cc w).opcode.toNat = 0xC2 + 8 * cc.code := by
  cases cc <;> rfl

theorem callIf_opcode (cc : Cond) (w : Word) : (Instr.callIf cc w).opcode.toNat = 0xC4 + 8 * cc.code := by
  cases cc <;> rfl

theorem rst_opcode (n : Fin 8) : (Instr.rst n).opcode.toNat = 0xC7 + 8 * n.val := by fin_cases n <;> rfl

/-- Settles O5: the codes, each family by its own equation, and the instructions outside the fields one by one. -/
theorem opcodeFields : Obligations.OpcodeFields :=
  ⟨rfl, rfl, rfl, rfl, rfl,
    fun r d8 => ⟨inrReg_opcode r, dcrReg_opcode r, mviReg_opcode r d8, movFromM_opcode r, movToM_opcode r⟩,
    fun _ => ⟨rfl, rfl, rfl, rfl⟩,
    movReg_opcode,
    fun op r d8 => ⟨aluReg_opcode op r, aluM_opcode op, aluImm_opcode op d8⟩,
    fun p w => ⟨lxi_opcode p w, inx_opcode p, dad_opcode p, dcx_opcode p⟩,
    fun p => ⟨popPair_opcode p, pushPair_opcode p⟩,
    fun cc w => ⟨retIf_opcode cc, jumpIf_opcode cc w, callIf_opcode cc w⟩,
    rst_opcode,
    fun _ _ => ⟨rfl, rfl, rfl, rfl, rfl, rfl⟩⟩

/-! ### The alternative opcodes (30_encoding.md R91) -/

theorem altOpcode_execute {s : State} (h : s.cfg.altOpcodePolicy = .execute) (op : Byte) (plain : Result) :
    altOpcode op s plain = plain := by
  simp only [altOpcode, h]

theorem altOpcode_refuse {s : State} (h : s.cfg.altOpcodePolicy = .refuse) (op : Byte) (plain : Result) :
    altOpcode op s plain = .refused (.altOpcode op) := by
  simp only [altOpcode, h]

/-- An instruction whose meaning is another's under the policy on alternative opcodes: that instruction under `execute`,
a refusal by name under `refuse`. -/
theorem exec_of_altOpcode {alt plain : Instr} {s : State} (halt : exec alt s = altOpcode alt.opcode s (exec plain s))
    (hplain : ∃ t, exec plain s = .next t) :
    (s.cfg.altOpcodePolicy = .execute → exec alt s = exec plain s ∧ ∃ t, exec alt s = .next t) ∧
    (s.cfg.altOpcodePolicy = .refuse → exec alt s = .refused (.altOpcode alt.opcode)) := by
  refine ⟨fun hexecute => ?_, fun hrefuse => ?_⟩
  · rw [halt, altOpcode_execute hexecute]
    exact ⟨rfl, hplain⟩
  · rw [halt, altOpcode_refuse hrefuse]

/-- Each of the 12 alternative opcodes with the opcode of the instruction it is an alternative of. -/
def alternativePairs : List (Byte × Byte) :=
  [(0x08, 0x00), (0x10, 0x00), (0x18, 0x00), (0x20, 0x00), (0x28, 0x00), (0x30, 0x00), (0x38, 0x00), (0xCB, 0xC3),
    (0xD9, 0xC9), (0xDD, 0xCD), (0xED, 0xCD), (0xFD, 0xCD)]

/-- The columns of the chart agree for each pair, and the flags columns are empty. -/
theorem chart_of_mem_alternativePairs : ∀ p ∈ alternativePairs,
    opLength p.1 = opLength p.2 ∧ duration p.1 = duration p.2 ∧ flagsAffected p.1 = .none ∧
      flagsAffected p.2 = .none := by
  intro p hp
  fin_cases hp <;> exact ⟨rfl, rfl, rfl, rfl⟩

/-- Settles O19: each of the 12 pairs has the opcodes of a pair of the chart, and the alternative's meaning is the
other's under the policy. -/
theorem alternativeOpcodes : Obligations.AlternativeOpcodes := by
  refine ⟨rfl, fun a16 s ip hmem => ?_⟩
  have hpair : (ip.1.opcode, ip.2.opcode) ∈ alternativePairs ∧
      exec ip.1 s = altOpcode ip.1.opcode s (exec ip.2 s) ∧ ∃ t, exec ip.2 s = .next t := by
    simp only [List.mem_cons, List.not_mem_nil, or_false] at hmem
    rcases hmem with rfl | rfl | rfl | rfl | rfl | rfl | rfl | rfl | rfl | rfl | rfl | rfl <;>
      exact ⟨by simp [alternativePairs, Instr.opcode, encode], rfl, _, rfl⟩
  obtain ⟨hopcodes, halt, hplain⟩ := hpair
  obtain ⟨hlength, hduration, hflags, hflags'⟩ := chart_of_mem_alternativePairs _ hopcodes
  exact ⟨by rw [length_eq_opLength_opcode, length_eq_opLength_opcode, hlength], hduration, hflags, hflags',
    exec_of_altOpcode halt hplain⟩

end Sys2Proof.Machine

/-! PROOFS for the family 40_misc_control.md: what the instructions of the family answer, each as one equation, when a
boundary is open to a request, and the delay of `EI` over two steps. -/

namespace Sys2Proof.Machine

/-! ### When a boundary is open to a request (60_exceptions.md R283 case 2) -/

theorem State.acceptedRequest_of_not_inte {s : State} (h : s.inte = false) : s.acceptedRequest = none := by
  simp [State.acceptedRequest, h]

theorem State.acceptedRequest_of_intInhibit {s : State} (h : s.intInhibit = true) : s.acceptedRequest = none := by
  simp [State.acceptedRequest, h]

theorem State.acceptedRequest_of_open {s : State} (hinte : s.inte = true) (hinhibit : s.intInhibit = false) :
    s.acceptedRequest = s.atBoundary.request := by
  simp [State.acceptedRequest, hinte, hinhibit]

/-! ### NOP, HLT, DI and EI (40_misc_control.md R110 to R114) -/

theorem State.advance_one (s : State) : s.advance 1 = { s with pc := s.pc + 1, intInhibit := false } := rfl

theorem exec_nop (s : State) : exec .nop s = .next (s.advance 1) := rfl

theorem exec_hlt (s : State) : exec .hlt s = .next { s.advance 1 with halted := true } := rfl

theorem exec_di (s : State) : exec .di s = .next { s.advance 1 with inte := false } := rfl

theorem exec_ei (s : State) : exec .ei s = .next { s.advance 1 with inte := true, intInhibit := true } := rfl

/-- The seven `*NOP` with their opcodes. -/
def alternativeNops : List (Instr × Nat) :=
  [(.altNop08, 0x08), (.altNop10, 0x10), (.altNop18, 0x18), (.altNop20, 0x20), (.altNop28, 0x28), (.altNop30, 0x30),
    (.altNop38, 0x38)]

theorem chartRow_of_mem_alternativeNops {io : Instr × Nat} (h : io ∈ alternativeNops) :
    ChartRow io.1 io.2 1 (4, 4) .none := by
  fin_cases h <;> exact ⟨rfl, rfl, rfl, rfl⟩

/-- A `*NOP` is `NOP` under the policy on alternative opcodes. -/
theorem exec_of_mem_alternativeNops {io : Instr × Nat} (h : io ∈ alternativeNops) (s : State) :
    exec io.1 s = altOpcode (BitVec.ofNat 8 io.2) s (exec .nop s) := by
  fin_cases h <;> rfl

/-- Settles O39: `NOP` is the end of an instruction and nothing before it, and a `*NOP` is `NOP` or refused. -/
theorem noOperations : Obligations.NoOperations := by
  refine fun s => ⟨⟨⟨rfl, rfl, rfl, rfl⟩, by rw [exec_nop, State.advance_one]⟩, fun io hmem => ?_⟩
  refine ⟨chartRow_of_mem_alternativeNops hmem, fun hexecute => ?_, fun hrefuse => ?_⟩
  · rw [exec_of_mem_alternativeNops hmem, altOpcode_execute hexecute, exec_nop, State.advance_one]
  · rw [exec_of_mem_alternativeNops hmem, altOpcode_refuse hrefuse]

/-- Settles O40: the three next states; `DI` closes the boundary behind it by `inte`, `EI` by `int_inhibit`. -/
theorem haltAndInterruptEnable : Obligations.HaltAndInterruptEnable := by
  refine fun s => ⟨⟨⟨rfl, rfl, rfl, rfl⟩, ?_⟩, ⟨⟨rfl, rfl, rfl, rfl⟩, _, exec_di s, ?_, ?_⟩,
    ⟨⟨rfl, rfl, rfl, rfl⟩, _, exec_ei s, ?_, ?_⟩⟩
  · rw [exec_hlt, State.advance_one]
  · rw [State.advance_one]
  · exact State.acceptedRequest_of_not_inte rfl
  · rw [State.advance_one]
  · exact State.acceptedRequest_of_intInhibit rfl

/-! ### The delay of EI (40_misc_control.md R114, 70_reset_and_hazards.md R322) -/

/-- With no reset, no accepted request and the processor running, a step is the instruction fetched
(60_exceptions.md R283 case 4). -/
theorem step_eq_exec {s : State} (hreset : s.atBoundary.reset = false) (hnone : s.acceptedRequest = none)
    (hhalted : s.halted = false) : step s = exec s.pastBoundary.fetch.1 s.pastBoundary.fetch.2 := by
  simp [step, hreset, hnone, hhalted]

/-- The boundary behind an instruction that ran with interrupts enabled: open, but after `DI`, which closes it for
good, and after `EI`, which closes it once. -/
theorem acceptedRequest_after_exec {i : Instr} {s u : State} (h : exec i s = .next u) (hinte : s.inte = true) :
    (i ≠ .ei → u.intInhibit = false ∧ (i ≠ .di → u.acceptedRequest = u.atBoundary.request)) ∧
    (i = .ei → u.acceptedRequest = none) := by
  obtain ⟨-, -, hkept, -, -, hset, hclear⟩ := hiddenBitWriters i s u h
  exact ⟨fun hei => ⟨hclear hei, fun hdi => State.acceptedRequest_of_open ((hkept hei hdi).trans hinte) (hclear hei)⟩,
    fun hei => State.acceptedRequest_of_intInhibit (hset hei)⟩

/-- Settles O34: the step of the `EI` leaves `inte` and `int_inhibit` set, so the boundary after it is closed and the
next step runs an instruction with interrupts enabled; `acceptedRequest_after_exec` says what that one leaves. -/
theorem eiDelay : Obligations.EiDelay := by
  intro s hreset hnone hhalted hfetch
  have hstep := step_eq_exec hreset hnone hhalted
  rw [hfetch, exec_ei] at hstep
  refine ⟨_, hstep, rfl, State.acceptedRequest_of_intInhibit rfl, fun hreset' => ?_⟩
  have hrunning := step_eq_exec hreset' (State.acceptedRequest_of_intInhibit rfl) (by simpa using hhalted)
  refine ⟨by simpa using hhalted, hrunning, fun u hu => ?_⟩
  exact acceptedRequest_after_exec (hrunning.symm.trans hu) (by simp)

/-! ### Ports (40_misc_control.md R115, R116, 20_memory.md R65) -/

/-- A scripted answer is the byte drawn, and is used up (log 3). -/
theorem State.draw_of_answer {s : State} {v : Byte} {rest : List Byte} (h : s.plat.answers = v :: rest) :
    s.draw = (v, { s with plat := { s.plat with answers := rest } }) := by
  simp only [State.draw, h]

/-- With no scripted answer left the byte is a free draw, and is counted (log 3). -/
theorem State.draw_of_no_answer {s : State} (h : s.plat.answers = []) :
    s.draw = (Config.freeByte s.plat.draws, { s with plat := { s.plat with draws := s.plat.draws + 1 } }) := by
  simp only [State.draw, h]

/-- The state after a draw: the platform's side of it is new, the rest is the state before. -/
theorem State.draw_snd_eq (s : State) : s.draw.2 = { s with plat := s.draw.2.plat } :=
  congrArg (fun t : State => { t with plat := s.draw.2.plat }) s.draw_frame

/-- The state after a port read: only the platform's side is new, with the answer at the end of the record. -/
theorem State.portRead_snd_eq (s : State) (p : Byte) : (s.portRead p).2 =
    { s with plat := { s.draw.2.plat with trace := s.plat.trace ++ [.portRead p s.draw.1] } } := by
  rw [State.portRead, State.record, State.draw_trace, State.draw_snd_eq]

/-- The chart's row of an instruction that carries operands, by its opcode byte. -/
theorem chartRow_of_encode {i : Instr} {op : Byte} {operands : List Byte} (h : encode i = op :: operands) :
    ChartRow i op.toNat (operands.length + 1) (duration op) (flagsAffected op) := by
  simp [ChartRow, Instr.opcode, Instr.length, h]

theorem encode_inPort (p : Byte) : encode (.inPort p) = [0xDB, p] := rfl

theorem encode_outPort (p : Byte) : encode (.outPort p) = [0xD3, p] := rfl

theorem exec_inPort (p : Byte) (s : State) :
    exec (.inPort p) s = .next (((s.portRead p).2.setReg .a s.draw.1).advance 2) := rfl

theorem exec_outPort (p : Byte) (s : State) :
    exec (.outPort p) s = .next ((s.portWrite p s.regs.a).advance 2) := rfl

/-- Settles O41: `IN` is a port read into A, `OUT` a port write of A, and a draw is one of its two cases. -/
theorem portInstructions : Obligations.PortInstructions := by
  refine fun p s => ⟨⟨chartRow_of_encode (encode_inPort p), ?_⟩, ⟨chartRow_of_encode (encode_outPort p), ?_⟩,
    fun v rest h => ?_, fun h => ?_⟩
  · rw [exec_inPort, State.portRead_snd_eq]
    rfl
  · rw [exec_outPort]
    rfl
  · rw [State.draw_of_answer h]
    exact ⟨rfl, rfl⟩
  · rw [State.draw_of_no_answer h]
    exact ⟨rfl, rfl⟩

end Sys2Proof.Machine

/-! PROOFS for the family 41_jumps_calls.md: the conditions as R130's table gives them, one equation for what each
shared operation of the family answers, which instruction is which operation, and the return of a call. -/

namespace Sys2Proof.Machine

/-! ### Conditions (41_jumps_calls.md R130) -/

/-- A condition is the entry of R130's table at its code. -/
theorem Flags.cond_eq_spec (f : Flags) (cc : Cond) : f.cond cc = Spec.cond f cc := by cases cc <;> rfl

/-- Settles O37: the conditions with an even code ask for a cleared flag, those with an odd code for a set one. -/
theorem conditionsTestOneFlag : Obligations.ConditionsTestOneFlag := by
  intro f cc
  cases cc with
  | nz | nc | po | p => exact (beq_false _).symm
  | z | c | pe | m => exact (beq_true _).symm

/-! ### The next states, field by field -/

theorem State.jump_eq (s : State) (target : Word) : s.jump target = { s with pc := target, intInhibit := false } := rfl

theorem State.advance_three (s : State) : s.advance 3 = { s with pc := s.pc + 3, intInhibit := false } := rfl

/-- A call: the return address is written, high byte first, and `sp` and `pc` are set (41_jumps_calls.md R141). -/
theorem State.call_eq_writes (s : State) (target ret : Word) : s.call target ret =
    { (s.memWrite (s.sp - 1) (hiByte ret)).memWrite (s.sp - 2) (loByte ret) with
      sp := s.sp - 2, pc := target, intInhibit := false } := rfl

/-- A return: two reads, the low byte first, and `sp` and `pc` are set (41_jumps_calls.md R151). -/
theorem State.ret_eq_reads (s : State) : s.ret =
    { ((s.memRead s.sp).2.memRead (s.sp + 1)).2 with
      sp := s.sp + 2
      pc := wordOf ((s.memRead s.sp).2.memRead (s.sp + 1)).1 (s.memRead s.sp).1
      intInhibit := false } := rfl

/-! ### What the shared operations answer, under the condition as the spec reads it -/

theorem jumpIf_eq (cc : Cond) (a16 : Word) (s : State) : jumpIf cc a16 s =
    .next (s.jump (if Spec.cond s.flags cc then a16 else s.pc + 3)) := by
  rw [jumpIf, Flags.cond_eq_spec]
  split <;> rfl

theorem callIf_eq (cc : Cond) (a16 : Word) (s : State) : callIf cc a16 s =
    .next (if Spec.cond s.flags cc then s.call a16 (s.pc + 3) else s.advance 3) := by
  rw [callIf, Flags.cond_eq_spec]
  split <;> rfl

theorem returnIf_eq (cc : Cond) (s : State) : returnIf cc s =
    .next (if Spec.cond s.flags cc then s.ret else s.advance 1) := by
  rw [returnIf, Flags.cond_eq_spec]
  split <;> rfl

/-! ### Jumps (41_jumps_calls.md R131 to R140, R161) -/

theorem encode_jmp (a16 : Word) : encode (.jmp a16) = [0xC3, loByte a16, hiByte a16] := rfl

theorem encode_altJmpCB (a16 : Word) : encode (.altJmpCB a16) = [0xCB, loByte a16, hiByte a16] := rfl

theorem encode_jumpIf (cc : Cond) (a16 : Word) : encode (Instr.jumpIf cc a16) =
    [BitVec.ofNat 8 (0xC2 + 8 * cc.code), loByte a16, hiByte a16] := by
  cases cc <;> rfl

theorem chartRow_jumpIf (cc : Cond) (a16 : Word) :
    ChartRow (Instr.jumpIf cc a16) (0xC2 + 8 * cc.code) 3 (10, 10) .none := by
  cases cc <;> exact chartRow_of_encode (encode_jumpIf _ a16)

theorem exec_jmp (a16 : Word) (s : State) : exec (.jmp a16) s = .next (s.jump a16) := rfl

/-- `*JMP` is `JMP` under the policy on alternative opcodes. -/
theorem exec_altJmpCB (a16 : Word) (s : State) :
    exec (.altJmpCB a16) s = altOpcode 0xCB s (exec (.jmp a16) s) := rfl

theorem exec_jumpIf (cc : Cond) (a16 : Word) (s : State) : exec (Instr.jumpIf cc a16) s = jumpIf cc a16 s := by
  cases cc <;> rfl

theorem exec_pchl (s : State) : exec .pchl s = .next (s.jump s.hl) := rfl

theorem State.hl_eq (s : State) : s.hl = wordOf s.regs.h s.regs.l := rfl

/-- Settles O42: every jump ends in `State.jump`; one that is not taken jumps to the next instruction. -/
theorem jumps : Obligations.Jumps := by
  refine fun a16 s => ⟨⟨chartRow_of_encode (encode_jmp a16), ?_⟩,
    ⟨chartRow_of_encode (encode_altJmpCB a16), fun hexecute => ?_⟩, fun cc => ⟨chartRow_jumpIf cc a16, ?_⟩,
    ⟨⟨rfl, rfl, rfl, rfl⟩, ?_⟩⟩
  · rw [exec_jmp, State.jump_eq]
  · rw [exec_altJmpCB, altOpcode_execute hexecute, exec_jmp, State.jump_eq]
  · rw [exec_jumpIf, jumpIf_eq, State.jump_eq]
  · rw [exec_pchl, State.jump_eq, State.hl_eq]

/-! ### Calls and restarts (41_jumps_calls.md R141 to R150, R162) -/

theorem encode_call (a16 : Word) : encode (.call a16) = [0xCD, loByte a16, hiByte a16] := rfl

theorem encode_callIf (cc : Cond) (a16 : Word) : encode (Instr.callIf cc a16) =
    [BitVec.ofNat 8 (0xC4 + 8 * cc.code), loByte a16, hiByte a16] := by
  cases cc <;> rfl

theorem chartRow_callIf (cc : Cond) (a16 : Word) :
    ChartRow (Instr.callIf cc a16) (0xC4 + 8 * cc.code) 3 (17, 11) .none := by
  cases cc <;> exact chartRow_of_encode (encode_callIf _ a16)

theorem exec_call (a16 : Word) (s : State) : exec (.call a16) s = .next (s.call a16 (s.pc + 3)) := rfl

/-- The three `*CALL` with their opcodes. -/
def alternativeCalls (a16 : Word) : List (Instr × Nat) :=
  [(.altCallDD a16, 0xDD), (.altCallED a16, 0xED), (.altCallFD a16, 0xFD)]

theorem encode_altCallDD (a16 : Word) : encode (.altCallDD a16) = [0xDD, loByte a16, hiByte a16] := rfl

theorem encode_altCallED (a16 : Word) : encode (.altCallED a16) = [0xED, loByte a16, hiByte a16] := rfl

theorem encode_altCallFD (a16 : Word) : encode (.altCallFD a16) = [0xFD, loByte a16, hiByte a16] := rfl

theorem chartRow_of_mem_alternativeCalls {a16 : Word} {io : Instr × Nat} (h : io ∈ alternativeCalls a16) :
    ChartRow io.1 io.2 3 (17, 17) .none := by
  fin_cases h
  · exact chartRow_of_encode (encode_altCallDD a16)
  · exact chartRow_of_encode (encode_altCallED a16)
  · exact chartRow_of_encode (encode_altCallFD a16)

/-- A `*CALL` is `CALL` under the policy on alternative opcodes. -/
theorem exec_of_mem_alternativeCalls {a16 : Word} {io : Instr × Nat} (h : io ∈ alternativeCalls a16) (s : State) :
    exec io.1 s = altOpcode (BitVec.ofNat 8 io.2) s (exec (.call a16) s) := by
  fin_cases h <;> rfl

theorem exec_callIf (cc : Cond) (a16 : Word) (s : State) : exec (Instr.callIf cc a16) s = callIf cc a16 s := by
  cases cc <;> rfl

/-- `RST n` is a call of `8 * n`. -/
theorem exec_rst (n : Fin 8) (s : State) : exec (Instr.rst n) s = .next (s.call (restartTarget n) (s.pc + 1)) := by
  fin_cases n <;> rfl

theorem chartRow_rst (n : Fin 8) : ChartRow (Instr.rst n) (0xC7 + 8 * n.val) 1 (11, 11) .none := by
  fin_cases n <;> exact ⟨rfl, rfl, rfl, rfl⟩

/-- Settles O43: every call that is taken is a `State.call`; one that is not taken goes on to the next instruction. -/
theorem calls : Obligations.Calls := by
  intro a16 s called
  have hcalled : ∀ target ret, s.call target ret = called target ret := s.call_eq_writes
  refine ⟨⟨chartRow_of_encode (encode_call a16), ?_⟩,
    fun io hmem => ⟨chartRow_of_mem_alternativeCalls hmem, fun hexecute => ?_⟩,
    fun cc => ⟨chartRow_callIf cc a16, ?_⟩, fun n => ⟨chartRow_rst n, ?_⟩⟩
  · rw [exec_call, hcalled]
  · rw [exec_of_mem_alternativeCalls hmem, altOpcode_execute hexecute, exec_call, hcalled]
  · rw [exec_callIf, callIf_eq, hcalled, State.advance_three]
  · rw [exec_rst, hcalled, restartTarget]

/-! ### Returns (41_jumps_calls.md R151 to R160) -/

theorem exec_ret (s : State) : exec .ret s = .next s.ret := rfl

/-- `*RET` is `RET` under the policy on alternative opcodes. -/
theorem exec_altRetD9 (s : State) : exec .altRetD9 s = altOpcode 0xD9 s (exec .ret s) := rfl

theorem exec_retIf (cc : Cond) (s : State) : exec (Instr.retIf cc) s = returnIf cc s := by cases cc <;> rfl

theorem chartRow_retIf (cc : Cond) : ChartRow (Instr.retIf cc) (0xC0 + 8 * cc.code) 1 (11, 5) .none := by
  cases cc <;> exact ⟨rfl, rfl, rfl, rfl⟩

/-- Settles O44: every return that is taken is `State.ret`; one that is not taken goes on to the next instruction. -/
theorem returns : Obligations.Returns := by
  intro s lo hi returned
  have hreturned : s.ret = returned := s.ret_eq_reads
  refine ⟨⟨⟨rfl, rfl, rfl, rfl⟩, ?_⟩, ⟨⟨rfl, rfl, rfl, rfl⟩, fun hexecute => ?_⟩,
    fun cc => ⟨chartRow_retIf cc, ?_⟩⟩
  · rw [exec_ret, hreturned]
  · rw [exec_altRetD9, altOpcode_execute hexecute, exec_ret, hreturned]
  · rw [exec_retIf, returnIf_eq, hreturned, State.advance_one]

/-! ### A call and its return over RAM (T8 of 95_test_vectors.md) -/

@[simp] theorem State.jump_memClass (s : State) (target a : Word) : (s.jump target).memClass a = s.memClass a := rfl

/-- A memory write does not see `pc`. -/
theorem State.memWrite_jump (s : State) (target a : Word) (v : Byte) :
    (s.jump target).memWrite a v = (s.memWrite a v).jump target := by
  simp only [State.memWrite, State.jump_memClass]
  split <;> rfl

/-- A push does not see `pc`: a call may as well go to its target first. -/
theorem State.call_eq_jump_push (s : State) (target ret : Word) : s.call target ret = (s.jump target).push ret := by
  rw [State.push, State.memWrite_jump, State.memWrite_jump]
  rfl

/-- The return of a call over RAM: `pc` is the return address, `sp` is as before, and what the push wrote stays. -/
theorem State.ret_call (s : State) (target ret : Word) (h1 : s.memClass (s.sp - 1) = .ram)
    (h2 : s.memClass (s.sp - 2) = .ram) :
    (s.call target ret).ret = { s.call target ret with sp := s.sp, pc := ret } := by
  rw [State.ret, State.call_eq_jump_push, State.pop_push (s.jump target) ret h1 h2, ← State.call_eq_jump_push]
  rfl

/-- Settles O30: the `RET` is the return of the call (`State.ret_call`), over the memory the call's push left. -/
theorem callThenReturn : Obligations.CallThenReturn := by
  intro s a16 h1 h2
  obtain ⟨hlow, hhigh⟩ := s.push_read_ram (s.pc + 3) h1 h2
  refine ⟨_, _, exec_call a16 s, rfl, exec_ret _, ?_⟩
  rw [State.ret_call s a16 (s.pc + 3) h1 h2]
  exact ⟨rfl, rfl, s.call_regs a16 _, s.call_flags a16 _, hhigh, hlow, s.push_read_ne _⟩

end Sys2Proof.Machine

/-! PROOFS for the family 42_load_store_8bit.md: the next states of a register load and of a memory write, what each
shared operation of the family answers with them, and which instruction is which operation. -/

namespace Sys2Proof.Machine

/-! ### The next states, field by field -/

theorem State.setReg_advance (s : State) (r : Reg) (v : Byte) (len : Nat) : (s.setReg r v).advance len =
    { s with regs := s.regs.set r v, pc := s.pc + BitVec.ofNat 16 len, intInhibit := false } := rfl

/-- A byte read into a register: the read changes neither the registers nor `pc`. -/
theorem State.memRead_setReg_advance (s : State) (a : Word) (r : Reg) (len : Nat) :
    ((s.memRead a).2.setReg r (s.memRead a).1).advance len = { (s.memRead a).2 with
      regs := s.regs.set r (s.memRead a).1, pc := s.pc + BitVec.ofNat 16 len, intInhibit := false } := by
  rw [State.setReg_advance, State.memRead_regs, State.memRead_pc]

/-- A byte written to memory: the write does not change `pc`. -/
theorem State.memWrite_advance (s : State) (a : Word) (v : Byte) (len : Nat) : (s.memWrite a v).advance len =
    { s.memWrite a v with pc := s.pc + BitVec.ofNat 16 len, intInhibit := false } := by
  rw [State.advance, State.memWrite_pc]

/-! ### What the moves answer, by the form of their operands (42_load_store_8bit.md R170 to R174) -/

theorem move_reg_reg (dst src : Reg) (s : State) : move (.reg dst) (.reg src) s =
    .next { s with regs := s.regs.set dst (s.regs.get src), pc := s.pc + 1, intInhibit := false } := rfl

theorem move_reg_m (dst : Reg) (s : State) : move (.reg dst) .m s = .next { (s.memRead s.hl).2 with
    regs := s.regs.set dst (s.memRead s.hl).1, pc := s.pc + 1, intInhibit := false } :=
  congrArg _ (s.memRead_setReg_advance s.hl dst 1)

theorem move_m_reg (src : Reg) (s : State) : move .m (.reg src) s =
    .next { s.memWrite s.hl (s.regs.get src) with pc := s.pc + 1, intInhibit := false } :=
  congrArg _ (s.memWrite_advance s.hl (s.regs.get src) 1)

theorem moveImm_reg (dst : Reg) (d8 : Byte) (s : State) : moveImm (.reg dst) d8 s =
    .next { s with regs := s.regs.set dst d8, pc := s.pc + 2, intInhibit := false } := rfl

theorem moveImm_m (d8 : Byte) (s : State) : moveImm .m d8 s =
    .next { s.memWrite s.hl d8 with pc := s.pc + 2, intInhibit := false } :=
  congrArg _ (s.memWrite_advance s.hl d8 2)

/-! ### MOV and MVI: which operation, which row of the chart -/

theorem exec_movReg (dst src : Reg) (s : State) : exec (Instr.movReg dst src) s = move (.reg dst) (.reg src) s := by
  cases dst <;> cases src <;> rfl

theorem exec_movFromM (dst : Reg) (s : State) : exec (Instr.movFromM dst) s = move (.reg dst) .m s := by
  cases dst <;> rfl

theorem exec_movToM (src : Reg) (s : State) : exec (Instr.movToM src) s = move .m (.reg src) s := by
  cases src <;> rfl

theorem exec_mviReg (dst : Reg) (d8 : Byte) (s : State) : exec (Instr.mviReg dst d8) s = moveImm (.reg dst) d8 s := by
  cases dst <;> rfl

theorem exec_mviM (d8 : Byte) (s : State) : exec (.mviM d8) s = moveImm .m d8 s := rfl

theorem chartRow_movReg (dst src : Reg) :
    ChartRow (Instr.movReg dst src) (0x40 + 8 * dst.code + src.code) 1 (5, 5) .none := by
  refine ⟨movReg_opcode dst src, ?_⟩
  cases dst <;> cases src <;> exact ⟨rfl, rfl, rfl⟩

theorem chartRow_movFromM (dst : Reg) : ChartRow (Instr.movFromM dst) (0x46 + 8 * dst.code) 1 (7, 7) .none := by
  cases dst <;> exact ⟨rfl, rfl, rfl, rfl⟩

theorem chartRow_movToM (src : Reg) : ChartRow (Instr.movToM src) (0x70 + src.code) 1 (7, 7) .none := by
  refine ⟨movToM_opcode src, ?_⟩
  cases src <;> exact ⟨rfl, rfl, rfl⟩

theorem encode_mviReg (dst : Reg) (d8 : Byte) : encode (Instr.mviReg dst d8) =
    [BitVec.ofNat 8 (0x06 + 8 * dst.code), d8] := by
  cases dst <;> rfl

theorem chartRow_mviReg (dst : Reg) (d8 : Byte) :
    ChartRow (Instr.mviReg dst d8) (0x06 + 8 * dst.code) 2 (7, 7) .none := by
  cases dst <;> exact chartRow_of_encode (encode_mviReg _ d8)

theorem encode_mviM (d8 : Byte) : encode (.mviM d8) = [0x36, d8] := rfl

/-- Settles O45: each form of `MOV` and `MVI` is the move between its operands, with M at the old H,L. -/
theorem moves : Obligations.Moves := by
  refine fun s d8 => ⟨fun dst src => ⟨chartRow_movReg dst src, ?_⟩, fun dst => ⟨chartRow_movFromM dst, ?_⟩,
    fun src => ⟨chartRow_movToM src, ?_⟩, fun dst => ⟨chartRow_mviReg dst d8, ?_⟩,
    ⟨chartRow_of_encode (encode_mviM d8), ?_⟩⟩
  · rw [exec_movReg, move_reg_reg]
  · rw [exec_movFromM, move_reg_m, State.hl_eq]
  · rw [exec_movToM, move_m_reg, State.hl_eq]
  · rw [exec_mviReg, moveImm_reg]
  · rw [exec_mviM, moveImm_m, State.hl_eq]

/-! ### LDAX, STAX, LDA, STA (42_load_store_8bit.md R175 to R178) -/

theorem loadA_eq (a : Word) (len : Nat) (s : State) : loadA a len s = .next { (s.memRead a).2 with
    regs := { s.regs with a := (s.memRead a).1 }, pc := s.pc + BitVec.ofNat 16 len, intInhibit := false } :=
  congrArg _ (s.memRead_setReg_advance a .a len)

theorem storeA_eq (a : Word) (len : Nat) (s : State) : storeA a len s =
    .next { s.memWrite a s.regs.a with pc := s.pc + BitVec.ofNat 16 len, intInhibit := false } :=
  congrArg _ (s.memWrite_advance a s.regs.a len)

theorem exec_ldaxB (s : State) : exec .ldaxB s = loadA (wordOf s.regs.b s.regs.c) 1 s := rfl

theorem exec_ldaxD (s : State) : exec .ldaxD s = loadA (wordOf s.regs.d s.regs.e) 1 s := rfl

theorem exec_staxB (s : State) : exec .staxB s = storeA (wordOf s.regs.b s.regs.c) 1 s := rfl

theorem exec_staxD (s : State) : exec .staxD s = storeA (wordOf s.regs.d s.regs.e) 1 s := rfl

theorem exec_lda (a16 : Word) (s : State) : exec (.lda a16) s = loadA a16 3 s := rfl

theorem exec_sta (a16 : Word) (s : State) : exec (.sta a16) s = storeA a16 3 s := rfl

theorem chartRow_ldaxB : ChartRow .ldaxB 0x0A 1 (7, 7) .none := ⟨rfl, rfl, rfl, rfl⟩

theorem chartRow_ldaxD : ChartRow .ldaxD 0x1A 1 (7, 7) .none := ⟨rfl, rfl, rfl, rfl⟩

theorem chartRow_staxB : ChartRow .staxB 0x02 1 (7, 7) .none := ⟨rfl, rfl, rfl, rfl⟩

theorem chartRow_staxD : ChartRow .staxD 0x12 1 (7, 7) .none := ⟨rfl, rfl, rfl, rfl⟩

theorem encode_lda (a16 : Word) : encode (.lda a16) = [0x3A, loByte a16, hiByte a16] := rfl

theorem encode_sta (a16 : Word) : encode (.sta a16) = [0x32, loByte a16, hiByte a16] := rfl

/-- Settles O46: the six instructions are `loadA` and `storeA` at the address of the pair or of the operand. -/
theorem accumulatorLoadsStores : Obligations.AccumulatorLoadsStores := by
  intro s a16 bc de
  refine ⟨List.forall_mem_cons.mpr ⟨⟨chartRow_ldaxB, ?ldaxB⟩, List.forall_mem_singleton.mpr ⟨chartRow_ldaxD, ?ldaxD⟩⟩,
    List.forall_mem_cons.mpr ⟨⟨chartRow_staxB, ?staxB⟩, List.forall_mem_singleton.mpr ⟨chartRow_staxD, ?staxD⟩⟩,
    ⟨chartRow_of_encode (encode_lda a16), ?lda⟩, ⟨chartRow_of_encode (encode_sta a16), ?sta⟩⟩
  case ldaxB => exact (exec_ldaxB s).trans (loadA_eq bc 1 s)
  case ldaxD => exact (exec_ldaxD s).trans (loadA_eq de 1 s)
  case staxB => exact (exec_staxB s).trans (storeA_eq bc 1 s)
  case staxD => exact (exec_staxD s).trans (storeA_eq de 1 s)
  case lda => exact (exec_lda a16 s).trans (loadA_eq a16 3 s)
  case sta => exact (exec_sta a16 s).trans (storeA_eq a16 3 s)

end Sys2Proof.Machine

/-! PROOFS for the family 43_load_store_16bit.md: the next states of a pair load, a push, a pop and an exchange, which
instruction is which operation, `POP PSW` after `PUSH PSW` over RAM, and the instructions that undo themselves. -/

namespace Sys2Proof.Machine

/-! ### LXI, LHLD, SHLD (43_load_store_16bit.md R190 to R192) -/

theorem encode_lxi (p : Pair16) (w : Word) : encode (Instr.lxi p w) =
    [BitVec.ofNat 8 (0x01 + 16 * p.code), loByte w, hiByte w] := by
  cases p <;> rfl

theorem encode_lhld (a16 : Word) : encode (.lhld a16) = [0x2A, loByte a16, hiByte a16] := rfl

theorem encode_shld (a16 : Word) : encode (.shld a16) = [0x22, loByte a16, hiByte a16] := rfl

theorem chartRow_lxi (p : Pair16) (w : Word) : ChartRow (Instr.lxi p w) (0x01 + 16 * p.code) 3 (10, 10) .none := by
  cases p <;> exact chartRow_of_encode (encode_lxi _ w)

theorem exec_lxi (p : Pair16) (w : Word) (s : State) :
    exec (Instr.lxi p w) s = .next ((s.setPair16 p w).advance 3) := by
  cases p <;> rfl

/-- `LHLD` reads L, then H: the reads change neither the other registers nor `pc`. -/
theorem exec_lhld (a16 : Word) (s : State) : exec (.lhld a16) s =
    .next { ((s.memRead a16).2.memRead (a16 + 1)).2 with
      regs := { s.regs with h := ((s.memRead a16).2.memRead (a16 + 1)).1, l := (s.memRead a16).1 }
      pc := s.pc + 3
      intInhibit := false } := by
  have hexec : exec (.lhld a16) s = loadHL a16 s := rfl
  rw [hexec, loadHL, State.advance, State.setReg, State.setReg]
  simp only [State.memRead_regs, State.memRead_pc]
  rfl

/-- `SHLD` writes L, then H: the writes do not change `pc`. -/
theorem exec_shld (a16 : Word) (s : State) : exec (.shld a16) s =
    .next { (s.memWrite a16 s.regs.l).memWrite (a16 + 1) s.regs.h with pc := s.pc + 3, intInhibit := false } := by
  have hexec : exec (.shld a16) s =
      .next (((s.memWrite a16 s.regs.l).memWrite (a16 + 1) s.regs.h).advance 3) := rfl
  rw [hexec, State.memWrite_advance, State.memWrite_pc]
  rfl

/-- Settles O47: `LXI` sets the two halves of the 16-bit operand, `LHLD` and `SHLD` are two byte accesses each. -/
theorem pairLoadsStores : Obligations.PairLoadsStores := fun s w =>
  ⟨⟨chartRow_lxi .bc w, exec_lxi .bc w s⟩, ⟨chartRow_lxi .de w, exec_lxi .de w s⟩,
    ⟨chartRow_lxi .hl w, exec_lxi .hl w s⟩, ⟨chartRow_lxi .sp w, exec_lxi .sp w s⟩,
    ⟨chartRow_of_encode (encode_lhld w), exec_lhld w s⟩, ⟨chartRow_of_encode (encode_shld w), exec_shld w s⟩⟩

/-! ### PUSH (43_load_store_16bit.md R193, R194) -/

/-- A push of the pair (hi, lo): hi is written, then lo, and the writes do not change `pc`. -/
theorem pushValue_wordOf (hi lo : Byte) (s : State) : pushValue (wordOf hi lo) s =
    .next { (s.memWrite (s.sp - 1) hi).memWrite (s.sp - 2) lo with
      sp := s.sp - 2, pc := s.pc + 1, intInhibit := false } := by
  rw [pushValue, State.advance, State.push_pc, State.push, hiByte_wordOf, loByte_wordOf]
  rfl

theorem exec_pushPair (p : Pair) (s : State) : exec (Instr.pushPair p) s = pushValue (s.pair p) s := by
  cases p <;> rfl

theorem exec_pushPsw (s : State) : exec .pushPsw s = pushValue s.psw s := rfl

theorem chartRow_pushPair (p : Pair) : ChartRow (Instr.pushPair p) (0xC5 + 16 * p.code) 1 (11, 11) .none := by
  cases p <;> exact ⟨rfl, rfl, rfl, rfl⟩

/-- The byte F, made from its number. -/
theorem Flags.toByte_eq_ofNat (f : Flags) : f.toByte = BitVec.ofNat 8
    (128 * f.s.toNat + 64 * f.z.toNat + 16 * f.a.toNat + 4 * f.p.toNat + 2 + f.c.toNat) := by
  rw [← f.toNat_toByte, BitVec.ofNat_toNat, BitVec.setWidth_eq]

/-- Settles O48: every push is `pushValue` of the two bytes of its pair. -/
theorem pushes : Obligations.Pushes := by
  intro s pushed
  have hpair (p : Pair) : exec (Instr.pushPair p) s = .next (pushed (s.reg (hiReg p)) (s.reg (loReg p))) :=
    (exec_pushPair p s).trans (pushValue_wordOf _ _ s)
  refine ⟨⟨chartRow_pushPair .bc, hpair .bc⟩, ⟨chartRow_pushPair .de, hpair .de⟩,
    ⟨chartRow_pushPair .hl, hpair .hl⟩, ⟨rfl, rfl, rfl, rfl⟩, ?_⟩
  rw [← Flags.toByte_eq_ofNat]
  exact (exec_pushPsw s).trans (pushValue_wordOf _ _ s)

/-! ### POP (43_load_store_16bit.md R195, R196) -/

/-- `POP rp`: the low register from `sp`, then the high register from `sp + 1`. -/
theorem popPair_eq_reads (p : Pair) (s : State) : popPair p s =
    .next { ((s.memRead s.sp).2.memRead (s.sp + 1)).2 with
      regs := (s.regs.set (hiReg p) ((s.memRead s.sp).2.memRead (s.sp + 1)).1).set (loReg p) (s.memRead s.sp).1
      sp := s.sp + 2
      pc := s.pc + 1
      intInhibit := false } := by
  rw [popPair, State.advance, State.setPair_pc, State.pop_pc]
  simp only [State.setPair, State.setReg, State.pop, State.memRead_regs, hiByte_wordOf, loByte_wordOf]
  rfl

theorem exec_popPsw (s : State) : exec .popPsw s = .next ((s.pop.2.setPsw s.pop.1).advance 1) := rfl

/-- `POP PSW`: the flags from the byte at `sp`, then A from `sp + 1`. -/
theorem exec_popPsw_eq_reads (s : State) : exec .popPsw s =
    .next { ((s.memRead s.sp).2.memRead (s.sp + 1)).2 with
      regs := { s.regs with a := ((s.memRead s.sp).2.memRead (s.sp + 1)).1 }
      flags := Flags.ofByte (s.memRead s.sp).1
      sp := s.sp + 2
      pc := s.pc + 1
      intInhibit := false } := by
  rw [exec_popPsw, State.advance, State.setPsw_pc, State.pop_pc]
  simp only [State.setPsw, State.setReg, State.pop, State.memRead_regs, hiByte_wordOf, loByte_wordOf]
  rfl

theorem exec_popPair (p : Pair) (s : State) : exec (Instr.popPair p) s = popPair p s := by cases p <;> rfl

theorem chartRow_popPair (p : Pair) : ChartRow (Instr.popPair p) (0xC1 + 16 * p.code) 1 (10, 10) .none := by
  cases p <;> exact ⟨rfl, rfl, rfl, rfl⟩

/-- Bit `i` of a byte, on its number. -/
theorem getLsbD_eq_decide (v : Byte) (i : Nat) : v.getLsbD i = decide (v.toNat / 2 ^ i % 2 = 1) :=
  Nat.testBit_eq_decide_div_mod_eq

/-- The sign bit of a byte, on its number. -/
theorem getLsbD_seven_eq_decide (v : Byte) : v.getLsbD 7 = decide (128 ≤ v.toNat) := by
  rw [getLsbD_eq_decide, decide_eq_decide]
  have hlt : v.toNat < 256 := v.isLt
  omega

/-- The five flags as the spec reads them off the number of a byte. -/
theorem Flags.ofByte_eq_spec (v : Byte) : Flags.ofByte v =
    { s := decide (128 ≤ v.toNat), z := decide (v.toNat / 64 % 2 = 1), a := decide (v.toNat / 16 % 2 = 1)
      p := decide (v.toNat / 4 % 2 = 1), c := decide (v.toNat % 2 = 1) } := by
  rw [Flags.ofByte, getLsbD_seven_eq_decide]
  simp only [getLsbD_eq_decide, Nat.reducePow, Nat.div_one]

/-- Settles O49: each pop is two reads, into the halves of the pair or into A and the flags. -/
theorem pops : Obligations.Pops := by
  intro s lo hi
  have hpair (p : Pair) := (exec_popPair p s).trans (popPair_eq_reads p s)
  refine ⟨⟨chartRow_popPair .bc, hpair .bc⟩, ⟨chartRow_popPair .de, hpair .de⟩, ⟨chartRow_popPair .hl, hpair .hl⟩,
    ⟨rfl, rfl, rfl, rfl⟩, ?_⟩
  rw [← Flags.ofByte_eq_spec]
  exact exec_popPsw_eq_reads s

/-! ### XCHG, XTHL, SPHL (43_load_store_16bit.md R197 to R199) -/

/-- `XCHG`: the two pairs change places; each is read before either is written. -/
theorem exec_xchg (s : State) : exec .xchg s = .next { s with
    regs := { s.regs with d := s.regs.h, e := s.regs.l, h := s.regs.d, l := s.regs.e }
    pc := s.pc + 1
    intInhibit := false } := by
  have hexec : exec .xchg s = .next (((s.setPair .hl (s.pair .de)).setPair .de (s.pair .hl)).advance 1) := rfl
  rw [hexec, State.advance]
  simp only [State.setPair, State.setReg, State.pair, hiByte_wordOf, loByte_wordOf]
  rfl

/-- `XTHL`: two reads, then two writes, none of which changes the other registers or `pc`. -/
theorem exec_xthl (s : State) : exec .xthl s =
    .next { (((s.memRead s.sp).2.memRead (s.sp + 1)).2.memWrite (s.sp + 1) s.regs.h).memWrite s.sp s.regs.l with
      regs := { s.regs with h := ((s.memRead s.sp).2.memRead (s.sp + 1)).1, l := (s.memRead s.sp).1 }
      pc := s.pc + 1
      intInhibit := false } := by
  have hexec : exec .xthl s = exchangeTop s := rfl
  rw [hexec, exchangeTop, State.advance, State.setReg, State.setReg]
  simp only [State.memWrite_regs, State.memWrite_pc, State.memRead_regs, State.memRead_pc]
  rfl

theorem exec_sphl (s : State) : exec .sphl s = .next { s with
    sp := wordOf s.regs.h s.regs.l, pc := s.pc + 1, intInhibit := false } := rfl

/-- Settles O50, by the three equations above. -/
theorem exchanges : Obligations.Exchanges := fun s =>
  ⟨⟨⟨rfl, rfl, rfl, rfl⟩, exec_xchg s⟩, ⟨⟨rfl, rfl, rfl, rfl⟩, exec_xthl s⟩, ⟨⟨rfl, rfl, rfl, rfl⟩, exec_sphl s⟩⟩

/-! ### PUSH PSW and POP PSW over RAM (T4 of 95_test_vectors.md) -/

/-- What a pop gives depends on `sp`, memory and its map alone: over RAM it takes back what was pushed, whatever else
has changed since. -/
theorem State.pop_of_pushed {s t : State} {v : Word} (hsp : t.sp = s.sp - 2) (hmem : t.mem = (s.push v).mem)
    (hcfg : t.cfg = s.cfg) (h1 : s.memClass (s.sp - 1) = .ram) (h2 : s.memClass (s.sp - 2) = .ram) :
    t.pop = (v, { t with sp := s.sp }) := by
  obtain ⟨hlow, hhigh⟩ := s.push_read_ram v h1 h2
  have hclass (a : Word) : t.memClass a = s.memClass a := by rw [State.memClass, State.memClass, hcfg]
  have hnext : t.sp + 1 = s.sp - 1 := by bv_omega
  have hback : t.sp + 2 = s.sp := by bv_omega
  rw [State.pop_plain t (.inl (by rw [hclass, hsp, h2])) (.inl (by rw [hclass, hnext, h1])), hback, hnext, hmem, hsp,
    hlow, hhigh, wordOf_hiByte_loByte]

/-- The bits of F that are no flag (10_state.md R27). -/
theorem Flags.toByte_fixed_bits (f : Flags) :
    f.toByte.getLsbD 1 = true ∧ f.toByte.getLsbD 3 = false ∧ f.toByte.getLsbD 5 = false := by
  obtain ⟨s, z, a, p, c⟩ := f
  revert s z a p c
  decide

theorem State.hiByte_psw (s : State) : hiByte s.psw = s.regs.a := hiByte_wordOf _ _

theorem State.loByte_psw (s : State) : loByte s.psw = s.flags.toByte := loByte_wordOf _ _

/-- `POP PSW` over the bytes of a `PUSH PSW` loads A and the flags that were pushed. -/
theorem exec_popPsw_of_pushed {s t : State} (hsp : t.sp = s.sp - 2) (hmem : t.mem = (s.push s.psw).mem)
    (hcfg : t.cfg = s.cfg) (h1 : s.memClass (s.sp - 1) = .ram) (h2 : s.memClass (s.sp - 2) = .ram) :
    exec .popPsw t = .next ({ t with
      regs := { t.regs with a := s.regs.a }, flags := s.flags, sp := s.sp }.advance 1) := by
  rw [exec_popPsw, State.pop_of_pushed hsp hmem hcfg h1 h2, State.setPsw, State.hiByte_psw, State.loByte_psw,
    Flags.ofByte_toByte]
  rfl

/-- Settles O32: the pop loads what was pushed (`exec_popPsw_of_pushed`), and the byte at `sp - 2` is F. -/
theorem pushPswPopPsw : Obligations.PushPswPopPsw := by
  intro s regs flags h1 h2
  obtain ⟨hlow, -⟩ := s.push_read_ram s.psw h1 h2
  refine ⟨_, _, exec_pushPsw s, exec_popPsw_of_pushed rfl rfl (s.push_cfg s.psw) h1 h2, rfl, rfl, rfl, ?_⟩
  rw [State.advance_mem, hlow, State.loByte_psw]
  exact s.flags.toByte_fixed_bits

/-! ### Running a list of instructions -/

theorem execAll_cons_next {i : Instr} {s t : State} (h : exec i s = .next t) (rest : List Instr) :
    execAll (i :: rest) s = execAll rest t := by
  rw [execAll, h]

theorem execAll_append_next {is : List Instr} {s t : State} (h : execAll is s = .next t) (rest : List Instr) :
    execAll (is ++ rest) s = execAll rest t := by
  induction is generalizing s with
  | nil => cases h; rfl
  | cons i is ih =>
    cases hi : exec i s with
    | next u =>
      rw [execAll_cons_next hi] at h
      rw [List.cons_append, execAll_cons_next hi, ih h]
    | fault f => cases f
    | refused r => rw [execAll, hi] at h; cases h

theorem execAll_pair {i j : Instr} {s t u : State} (hi : exec i s = .next t) (hj : exec j t = .next u) :
    execAll [i, j] s = .next u := by
  rw [execAll_cons_next hi, execAll_cons_next hj, execAll]

/-! ### Exchanges and complements undo themselves (T5 of 95_test_vectors.md) -/

theorem State.pc_add_one_add_one (s : State) : s.pc + 1 + 1 = s.pc + 2 := by bv_omega

theorem exec_cma (s : State) : exec .cma s = .next { s with
    regs := { s.regs with a := ~~~s.regs.a }, pc := s.pc + 1, intInhibit := false } := rfl

theorem exec_cmc (s : State) : exec .cmc s = .next { s with
    flags := { s.flags with c := !s.flags.c }, pc := s.pc + 1, intInhibit := false } := rfl

theorem execAll_xchg_xchg (s : State) :
    execAll [.xchg, .xchg] s = .next { s with pc := s.pc + 2, intInhibit := false } := by
  rw [execAll_pair (exec_xchg s) (exec_xchg _), ← State.pc_add_one_add_one]

theorem execAll_cma_cma (s : State) :
    execAll [.cma, .cma] s = .next { s with pc := s.pc + 2, intInhibit := false } := by
  rw [execAll_pair (exec_cma s) (exec_cma _), ← State.pc_add_one_add_one]
  simp only [BitVec.not_not]

theorem execAll_cmc_cmc (s : State) :
    execAll [.cmc, .cmc] s = .next { s with pc := s.pc + 2, intInhibit := false } := by
  rw [execAll_pair (exec_cmc s) (exec_cmc _), ← State.pc_add_one_add_one]
  simp only [Bool.not_not]

/-- `XTHL` over RAM: H,L and the two bytes at `sp` change places. -/
theorem exec_xthl_ram {s : State} (h0 : s.memClass s.sp = .ram) (h1 : s.memClass (s.sp + 1) = .ram) :
    exec .xthl s = .next { s with
      mem := (s.mem.write (s.sp + 1) s.regs.h).write s.sp s.regs.l
      regs := { s.regs with h := s.mem.read (s.sp + 1), l := s.mem.read s.sp }
      pc := s.pc + 1
      intInhibit := false } := by
  rw [exec_xthl, s.memRead_plain s.sp (.inl h0), s.memRead_plain (s.sp + 1) (.inl h1),
    State.memWrite_ram _ s.sp _ (by simpa using h0), s.memWrite_ram (s.sp + 1) _ h1]

/-- Two bytes exchanged with the bytes at two addresses, twice: memory reads as before. -/
theorem Memory.read_exchange_twice (m : Memory) (a b c : Word) (v w : Byte) :
    ((((m.write a v).write b w).write a (m.read a)).write b (m.read b)).read c = m.read c := by
  simp only [Memory.read_write]
  split
  · next h => rw [h]
  · split
    · next h => rw [h]
    · rfl

theorem execAll_xthl_xthl {s : State} (h0 : s.memClass s.sp = .ram) (h1 : s.memClass (s.sp + 1) = .ram) :
    ∃ t, execAll [.xthl, .xthl] s = .next t ∧ t.regs = s.regs ∧ t.sp = s.sp ∧ t.flags = s.flags ∧
      ∀ a : Word, t.mem.read a = s.mem.read a := by
  have hne : s.sp + 1 ≠ s.sp := by bv_omega
  refine ⟨_, execAll_pair (exec_xthl_ram h0 h1) (exec_xthl_ram h0 h1), ?_, rfl, rfl, fun a => ?_⟩
  · simp only [Memory.read_write_same, Memory.read_write_ne _ _ hne]
  · exact s.mem.read_exchange_twice _ _ a _ _

/-! ### Rotates: the bits of A, and of A with the carry, as a ring (44_alu_8bit.md R242 to R245) -/

/-- If `f` moves each bit of a ring of `n` by `k` places, `m` times `f` moves it by `m * k`. -/
theorem bit_iterate_of_shift {α : Type} {bit : α → Nat → Bool} {f : α → α} {n k : Nat}
    (hf : ∀ x, ∀ i < n, bit (f x) i = bit x ((i + k) % n)) (m : Nat) (x : α) :
    ∀ i < n, bit (f^[m] x) i = bit x ((i + m * k) % n) := by
  induction m with
  | zero => intro i hi; simp [Nat.mod_eq_of_lt hi]
  | succ m ih =>
    intro i hi
    have hstep : ((i + k) % n + m * k) % n = (i + (m + 1) * k) % n := by
      rw [Nat.mod_add_mod, Nat.succ_mul, Nat.add_assoc, Nat.add_comm k]
    rw [Function.iterate_succ_apply', hf _ i hi, ih _ (Nat.mod_lt _ (Nat.zero_lt_of_lt hi)), hstep]

/-- Around a ring of `n` bits, `n` equal moves bring every bit back. -/
theorem bit_iterate_ring {α : Type} {bit : α → Nat → Bool} {f : α → α} {n k : Nat}
    (hf : ∀ x, ∀ i < n, bit (f x) i = bit x ((i + k) % n)) (x : α) : ∀ i < n, bit (f^[n] x) i = bit x i := by
  intro i hi
  rw [bit_iterate_of_shift hf n x i hi, Nat.add_mul_mod_self_left, Nat.mod_eq_of_lt hi]

theorem rotLeftCarry_getLsbD_zero (a : Byte) (cy : Bool) : (rotLeftCarry a cy).1.getLsbD 0 = cy := by
  rw [rotLeftCarry, BitVec.getLsbD_append]
  simp

theorem rotLeftCarry_getLsbD_succ (a : Byte) (cy : Bool) {i : Nat} (h : i < 7) :
    (rotLeftCarry a cy).1.getLsbD (i + 1) = a.getLsbD i := by
  rw [rotLeftCarry, BitVec.getLsbD_append]
  simp [h]

theorem rotRightCarry_getLsbD_seven (a : Byte) (cy : Bool) : (rotRightCarry a cy).1.getLsbD 7 = cy := by
  rw [rotRightCarry, BitVec.getLsbD_append]
  simp

theorem rotRightCarry_getLsbD_of_lt (a : Byte) (cy : Bool) {i : Nat} (h : i < 7) :
    (rotRightCarry a cy).1.getLsbD i = a.getLsbD (i + 1) := by
  rw [rotRightCarry, BitVec.getLsbD_append]
  simp [h, Nat.add_comm]

/-- `RLC` is `RAL` with bit 7 as the carry. -/
theorem rotLeft_eq_rotLeftCarry (a : Byte) : rotLeft a = rotLeftCarry a (a.getLsbD 7) := rfl

/-- `RRC` is `RAR` with bit 0 as the carry. -/
theorem rotRight_eq_rotRightCarry (a : Byte) : rotRight a = rotRightCarry a (a.getLsbD 0) := rfl

/-- `RLC` moves every bit of A one place up, and bit 7 to bit 0. -/
theorem rotLeft_getLsbD (a : Byte) : ∀ i < 8, (rotLeft a).1.getLsbD i = a.getLsbD ((i + 7) % 8) := by
  intro i hi
  rw [rotLeft_eq_rotLeftCarry]
  cases i with
  | zero => exact rotLeftCarry_getLsbD_zero a _
  | succ j =>
    have hj : (j + 1 + 7) % 8 = j := by omega
    rw [rotLeftCarry_getLsbD_succ a _ (by omega), hj]

/-- `RRC` moves every bit of A one place down, and bit 0 to bit 7. -/
theorem rotRight_getLsbD (a : Byte) : ∀ i < 8, (rotRight a).1.getLsbD i = a.getLsbD ((i + 1) % 8) := by
  intro i hi
  rw [rotRight_eq_rotRightCarry]
  by_cases hi7 : i = 7
  · subst hi7
    exact rotRightCarry_getLsbD_seven a _
  · have hnext : (i + 1) % 8 = i + 1 := by omega
    rw [rotRightCarry_getLsbD_of_lt a _ (by omega), hnext]

theorem iterate_rotLeft_eight (a : Byte) : (fun b => (rotLeft b).1)^[8] a = a :=
  BitVec.eq_of_getLsbD_eq (bit_iterate_ring (bit := fun b : Byte => b.getLsbD) rotLeft_getLsbD a)

theorem iterate_rotRight_eight (a : Byte) : (fun b => (rotRight b).1)^[8] a = a :=
  BitVec.eq_of_getLsbD_eq (bit_iterate_ring (bit := fun b : Byte => b.getLsbD) rotRight_getLsbD a)

/-- `RRC` takes back what `RLC` did to A. -/
theorem rotRight_rotLeft (a : Byte) : (rotRight (rotLeft a).1).1 = a := by
  refine BitVec.eq_of_getLsbD_eq fun i hi => ?_
  have hback : ((i + 1) % 8 + 7) % 8 = i := by omega
  rw [rotRight_getLsbD _ i hi, rotLeft_getLsbD a _ (Nat.mod_lt _ (by decide)), hback]

/-- A and the carry: what a rotate reads and writes. -/
def State.accCarry (s : State) : Byte × Bool := (s.regs.a, s.flags.c)

/-- `RLC` on A and the carry. -/
def rlcStep (x : Byte × Bool) : Byte × Bool := rotLeft x.1

/-- `RRC` on A and the carry. -/
def rrcStep (x : Byte × Bool) : Byte × Bool := rotRight x.1

/-- `RAL` on A and the carry. -/
def ralStep (x : Byte × Bool) : Byte × Bool := rotLeftCarry x.1 x.2

/-- `RAR` on A and the carry. -/
def rarStep (x : Byte × Bool) : Byte × Bool := rotRightCarry x.1 x.2

theorem rlcStep_iterate_fst (n : Nat) (x : Byte × Bool) : (rlcStep^[n] x).1 = (fun b => (rotLeft b).1)^[n] x.1 :=
  Function.Semiconj.iterate_right (f := Prod.fst) (fun _ => rfl) n x

theorem rrcStep_iterate_fst (n : Nat) (x : Byte × Bool) : (rrcStep^[n] x).1 = (fun b => (rotRight b).1)^[n] x.1 :=
  Function.Semiconj.iterate_right (f := Prod.fst) (fun _ => rfl) n x

/-- The carry of an `RLC` is the bit that comes in at bit 0. -/
theorem rlcStep_snd (x : Byte × Bool) : (rlcStep x).2 = (rlcStep x).1.getLsbD 0 :=
  (rotLeftCarry_getLsbD_zero x.1 _).symm

/-- The carry of an `RRC` is the bit that comes in at bit 7. -/
theorem rrcStep_snd (x : Byte × Bool) : (rrcStep x).2 = (rrcStep x).1.getLsbD 7 :=
  (rotRightCarry_getLsbD_seven x.1 _).symm

theorem rlcStep_iterate_eight (x : Byte × Bool) : rlcStep^[8] x = (x.1, x.1.getLsbD 0) := by
  have hfst : (rlcStep^[8] x).1 = x.1 := by rw [rlcStep_iterate_fst, iterate_rotLeft_eight]
  refine Prod.ext hfst ?_
  rw [Function.iterate_succ_apply', rlcStep_snd, ← Function.iterate_succ_apply' rlcStep, hfst]

theorem rrcStep_iterate_eight (x : Byte × Bool) : rrcStep^[8] x = (x.1, x.1.getLsbD 7) := by
  have hfst : (rrcStep^[8] x).1 = x.1 := by rw [rrcStep_iterate_fst, iterate_rotRight_eight]
  refine Prod.ext hfst ?_
  rw [Function.iterate_succ_apply', rrcStep_snd, ← Function.iterate_succ_apply' rrcStep, hfst]

/-- As many `RRC` after some `RLC` restore A. -/
theorem rrcStep_iterate_rlcStep_iterate_fst (n : Nat) (x : Byte × Bool) : (rrcStep^[n] (rlcStep^[n] x)).1 = x.1 := by
  rw [rrcStep_iterate_fst, rlcStep_iterate_fst]
  exact Function.LeftInverse.iterate (g := fun b => (rotRight b).1) rotRight_rotLeft n x.1

/-- The ring of nine bits that `RAL` and `RAR` turn: the bits of A, and the carry in place 8. -/
def carryRing (x : Byte × Bool) (i : Nat) : Bool := if i = 8 then x.2 else x.1.getLsbD i

theorem carryRing_of_lt (x : Byte × Bool) {i : Nat} (h : i < 8) : carryRing x i = x.1.getLsbD i := if_neg h.ne

theorem carryRing_eight (x : Byte × Bool) : carryRing x 8 = x.2 := if_pos rfl

theorem carryRing_ext {x y : Byte × Bool} (h : ∀ i < 9, carryRing x i = carryRing y i) : x = y := by
  refine Prod.ext (BitVec.eq_of_getLsbD_eq fun i hi => ?_) ?_
  · rw [← carryRing_of_lt x hi, ← carryRing_of_lt y hi, h i (hi.trans (by decide))]
  · rw [← carryRing_eight x, ← carryRing_eight y, h 8 (by decide)]

/-- `RAL` moves every bit of the ring one place up, the carry to bit 0 and bit 7 to the carry. -/
theorem carryRing_ralStep (x : Byte × Bool) : ∀ i < 9, carryRing (ralStep x) i = carryRing x ((i + 8) % 9) := by
  intro i hi
  cases i with
  | zero => exact rotLeftCarry_getLsbD_zero x.1 x.2
  | succ j =>
    have hj : (j + 1 + 8) % 9 = j := by omega
    rw [hj, carryRing_of_lt x (by omega)]
    by_cases hj7 : j = 7
    · subst hj7
      exact carryRing_eight _
    · rw [carryRing_of_lt _ (by omega)]
      exact rotLeftCarry_getLsbD_succ x.1 x.2 (by omega)

/-- `RAR` moves every bit of the ring one place down, the carry to bit 7 and bit 0 to the carry. -/
theorem carryRing_rarStep (x : Byte × Bool) : ∀ i < 9, carryRing (rarStep x) i = carryRing x ((i + 1) % 9) := by
  intro i hi
  by_cases hi8 : i = 8
  · subst hi8
    exact carryRing_eight _
  · have hnext : (i + 1) % 9 = i + 1 := by omega
    rw [hnext, carryRing_of_lt _ (by omega)]
    by_cases hi7 : i = 7
    · subst hi7
      exact rotRightCarry_getLsbD_seven x.1 x.2
    · rw [carryRing_of_lt _ (by omega)]
      exact rotRightCarry_getLsbD_of_lt x.1 x.2 (by omega)

theorem ralStep_iterate_nine (x : Byte × Bool) : ralStep^[9] x = x :=
  carryRing_ext (bit_iterate_ring carryRing_ralStep x)

theorem rarStep_iterate_nine (x : Byte × Bool) : rarStep^[9] x = x :=
  carryRing_ext (bit_iterate_ring carryRing_rarStep x)

/-! ### Runs of rotates (T5 of 95_test_vectors.md) -/

/-- The state behind `len` rotates in a row that left `r` in A and the carry. -/
def State.rotated (s : State) (r : Byte × Bool) (len : Nat) : State := ((s.setReg .a r.1).setCarry r.2).advance len

theorem State.rotated_eq (s : State) (r : Byte × Bool) (len : Nat) : s.rotated r len = { s with
    regs := { s.regs with a := r.1 }
    flags := { s.flags with c := r.2 }
    pc := s.pc + BitVec.ofNat 16 len
    intInhibit := false } := rfl

theorem State.accCarry_rotated (s : State) (r : Byte × Bool) (len : Nat) : (s.rotated r len).accCarry = r := rfl

theorem State.rotated_rotated (s : State) (r r' : Byte × Bool) (m n : Nat) :
    (s.rotated r m).rotated r' n = s.rotated r' (m + n) := by
  simp only [State.rotated_eq, BitVec.ofNat_add, BitVec.add_assoc]

theorem rotate_eq (r : Byte × Bool) (s : State) : rotate r s = .next (s.rotated r 1) := rfl

theorem exec_rlc (s : State) : exec .rlc s = rotate (rlcStep s.accCarry) s := rfl

theorem exec_rrc (s : State) : exec .rrc s = rotate (rrcStep s.accCarry) s := rfl

theorem exec_ral (s : State) : exec .ral s = rotate (ralStep s.accCarry) s := rfl

theorem exec_rar (s : State) : exec .rar s = rotate (rarStep s.accCarry) s := rfl

/-- One or more times the same rotate: its step on A and the carry, iterated. -/
theorem execAll_replicate_rotate {i : Instr} {f : Byte × Bool → Byte × Bool}
    (hexec : ∀ s, exec i s = rotate (f s.accCarry) s) (n : Nat) (s : State) :
    execAll (List.replicate (n + 1) i) s = .next (s.rotated (f^[n + 1] s.accCarry) (n + 1)) := by
  induction n generalizing s with
  | zero => rw [List.replicate_one, execAll_cons_next (hexec s)]; rfl
  | succ n ih =>
    rw [List.replicate_succ, execAll_cons_next ((hexec s).trans (rotate_eq _ s)), ih, State.rotated_rotated,
      State.accCarry_rotated, ← Function.iterate_succ_apply f, Nat.add_comm 1]

/-- Settles O35: pairs of exchanges and complements by their equations, rotates by turning a ring all the way round. -/
theorem involutions : Obligations.Involutions := by
  intro s
  refine ⟨execAll_xchg_xchg s, execAll_cma_cma s, execAll_cmc_cmc s, ?rlc, ?rrc, ?rlcrrc, ?ral, ?rar, execAll_xthl_xthl⟩
  case rlc =>
    refine ⟨_, execAll_replicate_rotate exec_rlc 7 s, ?_⟩
    rw [rlcStep_iterate_eight]
    exact ⟨rfl, rfl⟩
  case rrc =>
    refine ⟨_, execAll_replicate_rotate exec_rrc 7 s, ?_⟩
    rw [rrcStep_iterate_eight]
    exact ⟨rfl, rfl⟩
  case rlcrrc =>
    refine ⟨_, (execAll_append_next (execAll_replicate_rotate exec_rlc 3 s) (List.replicate 4 .rrc)).trans
      (execAll_replicate_rotate exec_rrc 3 _), ?_⟩
    rw [State.rotated_rotated, State.accCarry_rotated, State.rotated_eq, rrcStep_iterate_rlcStep_iterate_fst]
    rfl
  case ral =>
    rw [execAll_replicate_rotate exec_ral 8 s, ralStep_iterate_nine]
    rfl
  case rar =>
    rw [execAll_replicate_rotate exec_rar 8 s, rarStep_iterate_nine]
    rfl

end Sys2Proof.Machine

/-! PROOFS for the family 44_alu_8bit.md: each flag computation of the model as the arithmetic on numbers of the spec,
what each shared operation of the family answers with it, and which instruction is which operation. -/

namespace Sys2Proof.Machine

/-! ### Nibbles, bits and bytes as numbers -/

theorem lowNibble_eq (v : Byte) : lowNibble v = v.toNat % 16 := by
  rw [lowNibble, BitVec.extractLsb'_toNat, Nat.shiftRight_zero]

theorem highNibble_eq (v : Byte) : highNibble v = v.toNat / 16 := by
  have hlt : v.toNat < 256 := v.isLt
  rw [highNibble, BitVec.extractLsb'_toNat, Nat.shiftRight_eq_div_pow]
  omega

/-- A bit of a byte as a number. -/
theorem toNat_getLsbD (v : Byte) (i : Nat) : (v.getLsbD i).toNat = v.toNat / 2 ^ i % 2 := Nat.toNat_testBit v.toNat i

/-- Two bit strings set side by side, as numbers. -/
theorem toNat_append_eq_add {m n : Nat} (x : BitVec m) (y : BitVec n) :
    (x ++ y).toNat = 2 ^ n * x.toNat + y.toNat := by
  rw [BitVec.toNat_append, ← Nat.shiftLeft_add_eq_or_of_lt y.isLt, Nat.shiftLeft_eq, Nat.mul_comm]

/-- A byte is the one its number makes, up to multiples of 256. -/
theorem byte_eq_ofNat {v : Byte} {n : Nat} (h : v.toNat = n % 256) : v = BitVec.ofNat 8 n :=
  BitVec.eq_of_toNat_eq (h.trans (BitVec.toNat_ofNat n 8).symm)

/-! ### Sign, zero and parity (44_alu_8bit.md R210) -/

/-- The exclusive or of some bits says whether an odd number of them is set. -/
theorem foldr_xor_eq_decide_countP {α : Type} (p : α → Bool) (l : List α) :
    l.foldr (fun i acc => p i ^^ acc) false = decide (l.countP p % 2 = 1) := by
  induction l with
  | nil => rfl
  | cons i l ih =>
    rw [List.foldr_cons, ih, List.countP_cons]
    cases p i
    · simp
    · simp only [if_true, Bool.true_xor, ← decide_not, decide_eq_decide]
      omega

/-- The parity flag: an even number of set bits. -/
theorem parity8_eq (v : Byte) : parity8 v = decide (Spec.ones v % 2 = 0) := by
  have hxor : parity8 v = !((List.range 8).foldr (fun i acc => v.getLsbD i ^^ acc) false) := by
    simp [parity8, List.range_succ]
  rw [hxor, foldr_xor_eq_decide_countP, ← decide_not, decide_eq_decide]
  exact Nat.mod_two_ne_one

/-- `szp` sets the spec's flags of a result and keeps both carries. -/
theorem Flags.szp_eq (f : Flags) (res : Byte) : f.szp res = Spec.flags res f.a f.c := by
  have hzero : (res == 0) = decide (res.toNat = 0) := by
    rw [beq_eq_decide, decide_eq_decide]
    exact BitVec.toNat_inj.symm
  rw [Flags.szp, Spec.flags, getLsbD_seven_eq_decide, hzero, parity8_eq]

theorem Sum.flags_eq (r : Sum) : r.flags = Spec.flags r.res r.ac r.cy := Flags.szp_eq _ _

theorem logicFlags_eq (res : Byte) (ac : Bool) : logicFlags res ac = Spec.flags res ac false := Flags.szp_eq _ _

theorem incFlags_eq (f : Flags) (res : Byte) :
    incFlags f res = Spec.flags res (decide (res.toNat % 16 = 0)) f.c := by
  rw [incFlags, Flags.szp_eq, lowNibble_eq]
  rfl

theorem decFlags_eq (f : Flags) (res : Byte) :
    decFlags f res = Spec.flags res (decide (res.toNat % 16 ≠ 15)) f.c := by
  rw [decFlags, Flags.szp_eq, lowNibble_eq, beq_eq_decide, ← decide_not]
  rfl

/-! ### Addition and subtraction (44_alu_8bit.md R211, R212) -/

/-- The 9-bit sum of two bytes and a carry does not overflow. -/
theorem toNat_sum9 (a b : Byte) (cin : Bool) :
    (a.zeroExtend 9 + b.zeroExtend 9 + BitVec.ofNat 9 cin.toNat).toNat = a.toNat + b.toNat + cin.toNat := by
  have ha : a.toNat < 256 := a.isLt
  have hb : b.toNat < 256 := b.isLt
  have hcin := cin.toNat_le
  simp only [BitVec.toNat_add, BitVec.toNat_setWidth, BitVec.toNat_ofNat, Nat.reducePow]
  omega

/-- The addition: the sum modulo 256, the carry out of bit 7, the carry out of bit 3. -/
theorem add8_eq (a b : Byte) (cin : Bool) : add8 a b cin =
    { res := Spec.sum a b cin
      cy := decide (255 < a.toNat + b.toNat + cin.toNat)
      ac := decide (15 < a.toNat % 16 + b.toNat % 16 + cin.toNat) } := by
  have ha : a.toNat < 256 := a.isLt
  have hb : b.toNat < 256 := b.isLt
  have hcin := cin.toNat_le
  rw [add8, Sum.mk.injEq]
  refine ⟨byte_eq_ofNat ?_, ?_, ?_⟩
  · rw [BitVec.extractLsb'_toNat, toNat_sum9, Nat.shiftRight_zero]
  · rw [BitVec.getLsbD, toNat_sum9, Nat.testBit_eq_decide_div_mod_eq, decide_eq_decide]
    omega
  · rw [lowNibble_eq, lowNibble_eq]

/-- The subtraction, as the addition of the complement: the difference modulo 256, the borrow, no borrow from bit 4. -/
theorem sub8_eq (a b : Byte) (bin : Bool) : sub8 a b bin =
    { res := Spec.diff a b bin
      cy := decide (a.toNat < b.toNat + bin.toNat)
      ac := decide (b.toNat % 16 + bin.toNat ≤ a.toNat % 16) } := by
  have hb : b.toNat < 256 := b.isLt
  have hnot : (~~~b).toNat = 255 - b.toNat := BitVec.toNat_not
  have hbin : (!bin).toNat = 1 - bin.toNat := by cases bin <;> rfl
  have hle := bin.toNat_le
  rw [sub8, add8_eq, Spec.sum, Spec.diff, hnot, hbin, Sum.mk.injEq, ← decide_not, decide_eq_decide, decide_eq_decide]
  refine ⟨congrArg (BitVec.ofNat 8) ?_, ?_, ?_⟩ <;> omega

theorem add8_flags (a b : Byte) (cin : Bool) : (add8 a b cin).flags = Spec.sumFlags a b cin := by
  rw [Sum.flags_eq, add8_eq, Spec.sumFlags]

theorem sub8_flags (a b : Byte) (bin : Bool) : (sub8 a b bin).flags = Spec.diffFlags a b bin := by
  rw [Sum.flags_eq, sub8_eq, Spec.diffFlags]

/-- The auxiliary carry of `ANA` and `ANI` (44_alu_8bit.md R213). -/
theorem andAux_eq (cfg : Config) (a b : Byte) : andAux cfg.andAuxCarry a b = Spec.andAux cfg a b := by
  rw [Spec.andAux]
  cases cfg.andAuxCarry with
  | orBit3 => simp only [andAux, getLsbD_eq_decide, Nat.reducePow, decide_true, Bool.true_and]
  | zero => simp [andAux]

/-! ### The accumulator operations on numbers (44_alu_8bit.md R211 to R213) -/

/-- `ADD` and `ADC` on numbers. -/
theorem aluOp_sum {op : AluOp} {cin cy : Bool} (h : (op, cin) ∈ [(AluOp.add, false), (.adc, cy)])
    (setting : AndAuxCarry) (a b : Byte) :
    aluOp op setting a b cy = (Spec.sum a b cin, Spec.sumFlags a b cin) := by
  rw [← add8_flags]
  fin_cases h <;> simp [aluOp, add8_eq]

/-- `SUB` and `SBB` on numbers. -/
theorem aluOp_diff {op : AluOp} {bin cy : Bool} (h : (op, bin) ∈ [(AluOp.sub, false), (.sbb, cy)])
    (setting : AndAuxCarry) (a b : Byte) :
    aluOp op setting a b cy = (Spec.diff a b bin, Spec.diffFlags a b bin) := by
  rw [← sub8_flags]
  fin_cases h <;> simp [aluOp, sub8_eq]

theorem aluOp_ana (cfg : Config) (a b : Byte) (cy : Bool) : aluOp .ana cfg.andAuxCarry a b cy =
    (a &&& b, Spec.flags (a &&& b) (Spec.andAux cfg a b) false) := by
  rw [aluOp, logicFlags_eq, andAux_eq]

theorem aluOp_xra (setting : AndAuxCarry) (a b : Byte) (cy : Bool) :
    aluOp .xra setting a b cy = (a ^^^ b, Spec.flags (a ^^^ b) false false) := by
  rw [aluOp, logicFlags_eq]

theorem aluOp_ora (setting : AndAuxCarry) (a b : Byte) (cy : Bool) :
    aluOp .ora setting a b cy = (a ||| b, Spec.flags (a ||| b) false false) := by
  rw [aluOp, logicFlags_eq]

/-! ### Which operation, which row of the chart -/

theorem exec_aluReg (op : AluOp) (r : Reg) (s : State) :
    exec (Instr.aluReg op r) s = accumulate op (s.regs.get r) 1 s := by
  cases op <;> cases r <;> rfl

theorem exec_aluM (op : AluOp) (s : State) :
    exec (Instr.aluM op) s = accumulate op (s.memRead s.hl).1 1 (s.memRead s.hl).2 := by
  cases op <;> rfl

theorem exec_aluImm (op : AluOp) (d8 : Byte) (s : State) : exec (Instr.aluImm op d8) s = accumulate op d8 2 s := by
  cases op <;> rfl

theorem encode_aluImm (op : AluOp) (d8 : Byte) :
    encode (Instr.aluImm op d8) = [BitVec.ofNat 8 (0xC6 + 8 * op.code), d8] := by
  cases op <;> rfl

theorem chartRow_aluReg (op : AluOp) (r : Reg) :
    ChartRow (Instr.aluReg op r) (0x80 + 8 * op.code + r.code) 1 (4, 4) .all := by
  refine ⟨aluReg_opcode op r, ?_⟩
  cases op <;> cases r <;> exact ⟨rfl, rfl, rfl⟩

theorem chartRow_aluM (op : AluOp) : ChartRow (Instr.aluM op) (0x86 + 8 * op.code) 1 (7, 7) .all := by
  cases op <;> exact ⟨rfl, rfl, rfl, rfl⟩

theorem chartRow_aluImm (op : AluOp) (d8 : Byte) :
    ChartRow (Instr.aluImm op d8) (0xC6 + 8 * op.code) 2 (7, 7) .all := by
  cases op <;> exact chartRow_of_encode (encode_aluImm _ d8)

/-! ### ADD, ADC, SUB, SBB, ANA, XRA, ORA (44_alu_8bit.md R214 to R227, R230 to R236) -/

/-- What an operation that writes A answers, by its result and flags. -/
theorem accumulate_eq {op : AluOp} {s : State} {b res : Byte} {flags : Flags} (hwrites : writesA op = true)
    (halu : aluOp op s.cfg.andAuxCarry s.regs.a b s.flags.c = (res, flags)) (len : Nat) :
    accumulate op b len s = .next { s with
      regs := { s.regs with a := res }, flags := flags, pc := s.pc + BitVec.ofNat 16 len, intInhibit := false } := by
  rw [accumulate, halu, if_pos hwrites]
  rfl

/-- The three forms of an operation that writes A, by its result and flags as functions of the operand: the read of M
changes neither the registers nor the flags, the parameters or `pc`. -/
theorem accumulate_forms {op : AluOp} {s : State} {res : Byte → Byte} {flags : Byte → Flags}
    (hwrites : writesA op = true)
    (halu : ∀ b, aluOp op s.cfg.andAuxCarry s.regs.a b s.flags.c = (res b, flags b)) (d8 : Byte) :
    let m := s.memRead (wordOf s.regs.h s.regs.l)
    (∀ r : Reg, ChartRow (Instr.aluReg op r) (0x80 + 8 * op.code + r.code) 1 (4, 4) .all ∧
      exec (Instr.aluReg op r) s = .next { s with
        regs := { s.regs with a := res (s.regs.get r) }
        flags := flags (s.regs.get r)
        pc := s.pc + 1, intInhibit := false }) ∧
    (ChartRow (Instr.aluM op) (0x86 + 8 * op.code) 1 (7, 7) .all ∧
      exec (Instr.aluM op) s = .next { m.2 with
        regs := { s.regs with a := res m.1 }, flags := flags m.1, pc := s.pc + 1, intInhibit := false }) ∧
    (ChartRow (Instr.aluImm op d8) (0xC6 + 8 * op.code) 2 (7, 7) .all ∧
      exec (Instr.aluImm op d8) s = .next { s with
        regs := { s.regs with a := res d8 }, flags := flags d8, pc := s.pc + 2, intInhibit := false }) := by
  intro m
  have hread : aluOp op m.2.cfg.andAuxCarry m.2.regs.a m.1 m.2.flags.c = (res m.1, flags m.1) := by
    rw [State.memRead_cfg, State.memRead_regs, State.memRead_flags, halu]
  refine ⟨fun r => ⟨chartRow_aluReg op r, ?_⟩, ⟨chartRow_aluM op, ?_⟩, chartRow_aluImm op d8, ?_⟩
  · exact (exec_aluReg op r s).trans (accumulate_eq hwrites (halu _) 1)
  · have hexec := (exec_aluM op s).trans (accumulate_eq hwrites hread 1)
    rw [State.memRead_regs, State.memRead_pc] at hexec
    exact hexec
  · exact (exec_aluImm op d8 s).trans (accumulate_eq hwrites (halu d8) 2)

/-- Settles O51: `ADD` and `ADC` write the sum and its flags, in the three forms. -/
theorem additions : Obligations.Additions := by
  intro s d8 op cin hmem
  have hwrites : writesA op = true := by fin_cases hmem <;> rfl
  exact accumulate_forms hwrites (aluOp_sum hmem s.cfg.andAuxCarry s.regs.a) d8

/-- Settles O52: `SUB` and `SBB` write the difference and its flags, in the three forms. -/
theorem subtractions : Obligations.Subtractions := by
  intro s d8 op bin hmem
  have hwrites : writesA op = true := by fin_cases hmem <;> rfl
  exact accumulate_forms hwrites (aluOp_diff hmem s.cfg.andAuxCarry s.regs.a) d8

/-- Settles O54: each logical operation writes its result and flags, in the three forms. -/
theorem logicals : Obligations.Logicals := by
  rintro s d8 op f aux (⟨rfl, rfl, rfl⟩ | ⟨rfl, rfl, rfl⟩ | ⟨rfl, rfl, rfl⟩)
  · exact accumulate_forms rfl (fun b => aluOp_ana s.cfg s.regs.a b s.flags.c) d8
  · exact accumulate_forms rfl (fun b => aluOp_xra s.cfg.andAuxCarry s.regs.a b s.flags.c) d8
  · exact accumulate_forms rfl (fun b => aluOp_ora s.cfg.andAuxCarry s.regs.a b s.flags.c) d8

/-! ### CMP (44_alu_8bit.md R228, R229, R237) -/

/-- A compare writes the flags of the subtraction and no register. -/
theorem accumulate_cmp (b : Byte) (len : Nat) (s : State) : accumulate .cmp b len s = .next { s with
    flags := Spec.diffFlags s.regs.a b false, pc := s.pc + BitVec.ofNat 16 len, intInhibit := false } := by
  rw [accumulate, aluOp, sub8_flags]
  rfl

/-- Two bytes are equal when their difference is zero. -/
theorem diffFlags_z (a b : Byte) : (Spec.diffFlags a b false).z = decide (a = b) := by
  have ha : a.toNat < 256 := a.isLt
  have hb : b.toNat < 256 := b.isLt
  rw [Spec.diffFlags, Spec.flags, Spec.diff, decide_eq_decide, BitVec.toNat_ofNat, ← BitVec.toNat_inj, Bool.toNat_false]
  omega

theorem diffFlags_c (a b : Byte) : (Spec.diffFlags a b false).c = decide (a.toNat < b.toNat) := rfl

/-- Settles O53: the compare in its three forms, and what its Z and C say. -/
theorem comparisons : Obligations.Comparisons := by
  refine fun s d8 => ⟨fun r => ⟨chartRow_aluReg .cmp r, ?reg⟩, ⟨chartRow_aluM .cmp, ?m⟩,
    ⟨chartRow_aluImm .cmp d8, ?imm⟩, fun a b => ⟨diffFlags_z a b, diffFlags_c a b⟩⟩
  case reg => exact (exec_aluReg .cmp r s).trans (accumulate_cmp _ 1 s)
  case m =>
    have hexec := (exec_aluM .cmp s).trans (accumulate_cmp _ 1 _)
    rw [congrArg Regs.a (s.memRead_regs s.hl), State.memRead_pc] at hexec
    exact hexec
  case imm => exact (exec_aluImm .cmp d8 s).trans (accumulate_cmp d8 2 s)

/-! ### INR and DCR (44_alu_8bit.md R238 to R241) -/

theorem increment_eq (o : Operand8) (s : State) :
    let res : Byte := BitVec.ofNat 8 ((s.readOperand o).1.toNat + 1)
    increment o s = .next { (s.readOperand o).2.writeOperand o res with
      flags := Spec.flags res (decide (res.toNat % 16 = 0)) s.flags.c, pc := s.pc + 1, intInhibit := false } := by
  intro res
  have hres : (s.readOperand o).1 + 1 = res := byte_eq_ofNat (BitVec.toNat_add _ _)
  simp only [increment, hres, State.advance_one, incFlags_eq, State.writeOperand_flags, State.readOperand_flags,
    State.writeOperand_pc, State.readOperand_pc]

theorem decrement_eq (o : Operand8) (s : State) :
    let res : Byte := BitVec.ofNat 8 ((s.readOperand o).1.toNat + 255)
    decrement o s = .next { (s.readOperand o).2.writeOperand o res with
      flags := Spec.flags res (decide (res.toNat % 16 ≠ 15)) s.flags.c, pc := s.pc + 1, intInhibit := false } := by
  intro res
  have hres : (s.readOperand o).1 - 1 = res :=
    byte_eq_ofNat ((BitVec.toNat_sub _ _).trans (congrArg (· % 256) (Nat.add_comm 255 _)))
  simp only [decrement, hres, State.advance_one, decFlags_eq, State.writeOperand_flags, State.readOperand_flags,
    State.writeOperand_pc, State.readOperand_pc]

theorem exec_inrReg (r : Reg) (s : State) : exec (Instr.inrReg r) s = increment (.reg r) s := by cases r <;> rfl

theorem exec_inrM (s : State) : exec .inrM s = increment .m s := rfl

theorem exec_dcrReg (r : Reg) (s : State) : exec (Instr.dcrReg r) s = decrement (.reg r) s := by cases r <;> rfl

theorem exec_dcrM (s : State) : exec .dcrM s = decrement .m s := rfl

theorem chartRow_inrReg (r : Reg) : ChartRow (Instr.inrReg r) (0x04 + 8 * r.code) 1 (5, 5) .szap := by
  cases r <;> exact ⟨rfl, rfl, rfl, rfl⟩

theorem chartRow_dcrReg (r : Reg) : ChartRow (Instr.dcrReg r) (0x05 + 8 * r.code) 1 (5, 5) .szap := by
  cases r <;> exact ⟨rfl, rfl, rfl, rfl⟩

/-- The address of M is taken before the read, which keeps H and L. -/
theorem State.hl_memRead (s : State) (a : Word) : (s.memRead a).2.hl = s.hl := by
  rw [State.hl_eq, State.memRead_regs, ← State.hl_eq]

theorem State.readWriteOperand_m (s : State) (v : Byte) :
    (s.readOperand .m).2.writeOperand .m v = (s.memRead s.hl).2.memWrite s.hl v := by
  rw [State.readOperand, State.writeOperand, State.hl_memRead]

/-- Settles O55: `INR` and `DCR` read their operand, write it back one up or one down, and keep C. -/
theorem incrementsDecrements : Obligations.IncrementsDecrements := by
  refine fun s => ⟨fun r => ⟨chartRow_inrReg r, ?inrReg⟩, ⟨⟨rfl, rfl, rfl, rfl⟩, ?inrM⟩,
    fun r => ⟨chartRow_dcrReg r, ?dcrReg⟩, ⟨rfl, rfl, rfl, rfl⟩, ?dcrM⟩
  case inrReg => exact (exec_inrReg r s).trans (increment_eq (.reg r) s)
  case inrM => rw [exec_inrM, increment_eq, State.readWriteOperand_m, State.hl_eq]; rfl
  case dcrReg => exact (exec_dcrReg r s).trans (decrement_eq (.reg r) s)
  case dcrM => rw [exec_dcrM, decrement_eq, State.readWriteOperand_m, State.hl_eq]; rfl

/-! ### Rotates (44_alu_8bit.md R242 to R245) -/

theorem rotLeftCarry_eq (a : Byte) (cy : Bool) : rotLeftCarry a cy =
    (BitVec.ofNat 8 (2 * a.toNat % 256 + cy.toNat), decide (128 ≤ a.toNat)) := by
  have hcy := cy.toNat_le
  refine Prod.ext (byte_eq_ofNat ?_) (getLsbD_seven_eq_decide a)
  rw [rotLeftCarry, toNat_append_eq_add, BitVec.extractLsb'_toNat, BitVec.toNat_ofBool, Nat.shiftRight_zero]
  omega

theorem rotRightCarry_eq (a : Byte) (cy : Bool) : rotRightCarry a cy =
    (BitVec.ofNat 8 (a.toNat / 2 + 128 * cy.toNat), decide (a.toNat % 2 = 1)) := by
  have ha : a.toNat < 256 := a.isLt
  have hcy := cy.toNat_le
  have hbit : a.getLsbD 0 = decide (a.toNat % 2 = 1) := by
    rw [getLsbD_eq_decide, Nat.pow_zero, Nat.div_one]
  refine Prod.ext (byte_eq_ofNat ?_) hbit
  rw [rotRightCarry, toNat_append_eq_add, BitVec.extractLsb'_toNat, BitVec.toNat_ofBool, Nat.shiftRight_eq_div_pow]
  omega

theorem rotLeft_eq (a : Byte) : rotLeft a =
    (BitVec.ofNat 8 (2 * a.toNat % 256 + a.toNat / 128), decide (128 ≤ a.toNat)) := by
  have ha : a.toNat < 256 := a.isLt
  have hbit : (a.getLsbD 7).toNat = a.toNat / 128 := by
    rw [toNat_getLsbD]
    omega
  rw [rotLeft_eq_rotLeftCarry, rotLeftCarry_eq, hbit]

theorem rotRight_eq (a : Byte) : rotRight a =
    (BitVec.ofNat 8 (a.toNat / 2 + 128 * (a.toNat % 2)), decide (a.toNat % 2 = 1)) := by
  rw [rotRight_eq_rotRightCarry, rotRightCarry_eq, toNat_getLsbD, Nat.pow_zero, Nat.div_one]

/-- Settles O56: each rotate writes A and C as its step says, and the steps are those on numbers. -/
theorem rotates : Obligations.Rotates := by
  refine fun s => ⟨⟨⟨rfl, rfl, rfl, rfl⟩, ?rlc⟩, ⟨⟨rfl, rfl, rfl, rfl⟩, ?rrc⟩, ⟨⟨rfl, rfl, rfl, rfl⟩, ?ral⟩,
    ⟨rfl, rfl, rfl, rfl⟩, ?rar⟩
  case rlc => rw [exec_rlc, rotate_eq, rlcStep, rotLeft_eq]; rfl
  case rrc => rw [exec_rrc, rotate_eq, rrcStep, rotRight_eq]; rfl
  case ral => rw [exec_ral, rotate_eq, ralStep, rotLeftCarry_eq]; rfl
  case rar => rw [exec_rar, rotate_eq, rarStep, rotRightCarry_eq]; rfl

/-! ### DAA, CMA, STC, CMC (44_alu_8bit.md R246 to R249) -/

theorem daaLow_eq (f : Flags) (a : Byte) : daaLow f a = Spec.adjustsLow f a := by
  rw [daaLow, lowNibble_eq]
  rfl

theorem daaHigh_eq (f : Flags) (a : Byte) : daaHigh f a = Spec.adjustsHigh f a := by
  rw [daaHigh, lowNibble_eq, highNibble_eq]
  rfl

theorem toNat_daaCorrection (f : Flags) (a : Byte) : (daaCorrection f a).toNat = Spec.correction f a := by
  rw [daaCorrection, Spec.correction, daaLow_eq, daaHigh_eq]
  split <;> split <;> rfl

/-- `DAA` on numbers: one addition of the correction, with a carry that is kept or set. -/
theorem daa_eq (f : Flags) (a : Byte) :
    let corr := Spec.correction f a
    let adjusted : Byte := BitVec.ofNat 8 (a.toNat + corr)
    daa f a = (adjusted,
      Spec.flags adjusted (decide (15 < a.toNat % 16 + corr % 16)) (f.c || Spec.adjustsHigh f a)) := by
  simp only [daa, Sum.flags_eq, add8_eq, Spec.sum, toNat_daaCorrection, daaHigh_eq, Bool.toNat_false, Nat.add_zero]

theorem exec_daa (s : State) : exec .daa s = .next { s with
    regs := { s.regs with a := (daa s.flags s.regs.a).1 }
    flags := (daa s.flags s.regs.a).2
    pc := s.pc + 1
    intInhibit := false } := rfl

theorem exec_stc (s : State) : exec .stc s = .next { s with
    flags := { s.flags with c := true }, pc := s.pc + 1, intInhibit := false } := rfl

/-- The complement of a byte as a number. -/
theorem byte_not_eq (a : Byte) : ~~~a = BitVec.ofNat 8 (255 - a.toNat) := by
  refine byte_eq_ofNat (BitVec.toNat_not.trans ?_)
  omega

/-- Settles O57, by the four equations. -/
theorem adjustComplementCarry : Obligations.AdjustComplementCarry := by
  refine fun s => ⟨⟨⟨rfl, rfl, rfl, rfl⟩, ?daa⟩, ⟨⟨rfl, rfl, rfl, rfl⟩, ?cma⟩, ⟨⟨rfl, rfl, rfl, rfl⟩, exec_stc s⟩,
    ⟨rfl, rfl, rfl, rfl⟩, exec_cmc s⟩
  case daa => rw [exec_daa, daa_eq]
  case cma => rw [exec_cma, byte_not_eq]

/-! ### Decimal addition (T7 of 95_test_vectors.md) -/

/-- The number of a pair of decimal digits packed into a byte. -/
theorem Spec.toNat_bcd {n : Nat} (h : n < 100) : (Spec.bcd n).toNat = 16 * (n / 10) + n % 10 := by
  rw [Spec.bcd, BitVec.toNat_ofNat]
  omega

/-- The digit sums `hi` and `lo` of two digit pairs, packed into one number as `DAA` finds them: its test of the high
digit is that the decimal sum passes 99. -/
theorem decimal_overflow_iff {hi lo : Nat} (hlo : lo ≤ 19) :
    ((255 < 16 * hi + lo ∨ 9 < (16 * hi + lo) % 2 ^ 8 / 16) ∨
        9 ≤ (16 * hi + lo) % 2 ^ 8 / 16 ∧ 9 < (16 * hi + lo) % 2 ^ 8 % 16) ↔
      100 ≤ 10 * hi + lo := by
  by_cases hcarry : 255 < 16 * hi + lo
  · omega
  · rw [Nat.mod_eq_of_lt (a := 16 * hi + lo) (by omega)]
    omega

section Digits

variable {x y : Nat} (hx : x < 100) (hy : y < 100) (cin : Bool)
include hx hy

/-- After the sum of two digit pairs the low digit is corrected when the sum of the low digits passes 9: then it left
bit 3, or left a digit above 9. -/
theorem Spec.adjustsLow_sum_bcd :
    Spec.adjustsLow (Spec.sumFlags (Spec.bcd x) (Spec.bcd y) cin) (Spec.sum (Spec.bcd x) (Spec.bcd y) cin) =
      decide (9 < x % 10 + y % 10 + cin.toNat) := by
  have hcin := cin.toNat_le
  rw [Spec.adjustsLow, Spec.sumFlags, Spec.flags, Spec.sum, BitVec.toNat_ofNat, Spec.toNat_bcd hx, Spec.toNat_bcd hy,
    ← Bool.decide_or, decide_eq_decide]
  omega

/-- After the sum of two digit pairs the high digit is corrected when the decimal sum passes 99. -/
theorem Spec.adjustsHigh_sum_bcd :
    Spec.adjustsHigh (Spec.sumFlags (Spec.bcd x) (Spec.bcd y) cin) (Spec.sum (Spec.bcd x) (Spec.bcd y) cin) =
      decide (100 ≤ x + y + cin.toNat) := by
  have hcin := cin.toNat_le
  have hbinary : 16 * (x / 10) + x % 10 + (16 * (y / 10) + y % 10) + cin.toNat =
      16 * (x / 10 + y / 10) + (x % 10 + y % 10 + cin.toNat) := by omega
  have hdecimal : x + y + cin.toNat = 10 * (x / 10 + y / 10) + (x % 10 + y % 10 + cin.toNat) := by omega
  rw [Spec.adjustsHigh, Spec.sumFlags, Spec.flags, Spec.sum, BitVec.toNat_ofNat, Spec.toNat_bcd hx, Spec.toNat_bcd hy,
    ← Bool.decide_and, ← Bool.decide_or, ← Bool.decide_or, decide_eq_decide, hbinary, hdecimal]
  exact decimal_overflow_iff (by omega)

/-- The sum of two digit pairs with its correction is the digit pair of the decimal sum. -/
theorem Spec.adjusted_sum_bcd :
    BitVec.ofNat 8 ((Spec.sum (Spec.bcd x) (Spec.bcd y) cin).toNat +
        Spec.correction (Spec.sumFlags (Spec.bcd x) (Spec.bcd y) cin) (Spec.sum (Spec.bcd x) (Spec.bcd y) cin)) =
      Spec.bcd ((x + y + cin.toNat) % 100) := by
  have hcin := cin.toNat_le
  refine BitVec.eq_of_toNat_eq ?_
  rw [Spec.toNat_bcd (Nat.mod_lt _ (by decide)), BitVec.toNat_ofNat, Spec.correction, Spec.adjustsLow_sum_bcd hx hy,
    Spec.adjustsHigh_sum_bcd hx hy, Spec.sum, BitVec.toNat_ofNat, Spec.toNat_bcd hx, Spec.toNat_bcd hy]
  simp only [decide_eq_true_eq]
  split <;> split <;> omega

end Digits

/-- `ADC` of a register or an immediate: the sum in A, its flags. -/
theorem exec_adc {s : State} {i : Instr} {b : Byte}
    (h : i = .aci b ∨ ∃ r : Reg, i = Instr.aluReg .adc r ∧ s.regs.get r = b) :
    ∃ t, exec i s = .next t ∧ t.regs.a = Spec.sum s.regs.a b s.flags.c ∧
      t.flags = Spec.sumFlags s.regs.a b s.flags.c := by
  obtain ⟨hreg, -, -, himm⟩ := additions s b .adc s.flags.c (List.mem_cons_of_mem _ (List.mem_singleton_self _))
  rcases h with rfl | ⟨r, rfl, rfl⟩
  · exact ⟨_, himm, rfl, rfl⟩
  · exact ⟨_, (hreg r).2, rfl, rfl⟩

/-- Settles O58: `DAA` corrects the sum that `ADC` left to the digit pair of the decimal sum, and its carry is the
correction of the high digit. -/
theorem decimalAddition : Obligations.DecimalAddition := by
  intro s x y i hx hy ha hi
  obtain ⟨t, hadc, hsum, hflags⟩ := exec_adc hi
  refine ⟨t, _, hadc, exec_daa t, ?_, ?_⟩
  · rw [daa_eq, hsum, hflags, ha, Spec.adjusted_sum_bcd hx hy]
  · have hcarry (f : Flags) (a : Byte) : (daa f a).2.c = Spec.adjustsHigh f a := by
      rw [daa_eq, Spec.flags, Spec.adjustsHigh, Bool.or_assoc, Bool.or_self_left]
    rw [hcarry, hsum, hflags, ha, Spec.adjustsHigh_sum_bcd hx hy]

end Sys2Proof.Machine

/-! PROOFS for the family 45_alu_16bit.md: the model's word arithmetic as the arithmetic on numbers of the spec, and
which instruction is which operation. -/

namespace Sys2Proof.Machine

/-! ### Words as numbers -/

/-- A word is the one its number makes, up to multiples of 65536. -/
theorem word_eq_ofNat {w : Word} {n : Nat} (h : w.toNat = n % 65536) : w = BitVec.ofNat 16 n :=
  BitVec.eq_of_toNat_eq (h.trans (BitVec.toNat_ofNat n 16).symm)

theorem word_add_one_eq (w : Word) : w + 1 = BitVec.ofNat 16 (w.toNat + 1) := word_eq_ofNat (BitVec.toNat_add _ _)

/-- One down is 65535 up, modulo 2^16. -/
theorem word_sub_one_eq (w : Word) : w - 1 = BitVec.ofNat 16 (w.toNat + 65535) :=
  word_eq_ofNat ((BitVec.toNat_sub _ _).trans (congrArg (· % 65536) (Nat.add_comm 65535 _)))

/-- The 17-bit sum of two words does not overflow. -/
theorem toNat_sum17 (a b : Word) : (a.zeroExtend 17 + b.zeroExtend 17).toNat = a.toNat + b.toNat := by
  have ha : a.toNat < 65536 := a.isLt
  have hb : b.toNat < 65536 := b.isLt
  simp only [BitVec.toNat_add, BitVec.toNat_setWidth, Nat.reducePow]
  omega

/-- The 16-bit addition: the sum modulo 2^16, the carry out of bit 15. -/
theorem add16_eq (a b : Word) :
    add16 a b = (BitVec.ofNat 16 (a.toNat + b.toNat), decide (65536 ≤ a.toNat + b.toNat)) := by
  have ha : a.toNat < 65536 := a.isLt
  have hb : b.toNat < 65536 := b.isLt
  refine Prod.ext (word_eq_ofNat ?_) ?_
  · rw [add16, BitVec.extractLsb'_toNat, toNat_sum17, Nat.shiftRight_zero]
  · rw [add16, BitVec.getLsbD, toNat_sum17, Nat.testBit_eq_decide_div_mod_eq, decide_eq_decide]
    omega

/-! ### INX and DCX (45_alu_16bit.md R270, R271) -/

theorem exec_inx (p : Pair16) (s : State) : exec (Instr.inx p) s = inxPair p s := by cases p <;> rfl

theorem exec_dcx (p : Pair16) (s : State) : exec (Instr.dcx p) s = dcxPair p s := by cases p <;> rfl

/-- `INX` and `DCX` on numbers: the operand is written back one up, or 65535 up. -/
theorem exec_inx_dcx (up : Bool) (p : Pair16) (s : State) :
    exec (if up then Instr.inx p else Instr.dcx p) s = .next ((s.setPair16 p
      (BitVec.ofNat 16 ((s.pair16 p).toNat + (if up then 1 else 65535)))).advance 1) := by
  cases up with
  | true => rw [if_pos rfl, if_pos rfl, exec_inx, inxPair, word_add_one_eq]
  | false => rw [if_neg Bool.false_ne_true, if_neg Bool.false_ne_true, exec_dcx, dcxPair, word_sub_one_eq]

theorem chartRow_inx (p : Pair16) : ChartRow (Instr.inx p) (0x03 + 16 * p.code) 1 (5, 5) .none := by
  cases p <;> exact ⟨rfl, rfl, rfl, rfl⟩

theorem chartRow_dcx (p : Pair16) : ChartRow (Instr.dcx p) (0x0B + 16 * p.code) 1 (5, 5) .none := by
  cases p <;> exact ⟨rfl, rfl, rfl, rfl⟩

/-- Settles O59: `INX` and `DCX` write the 16-bit operand back one up or one down; writing a pair sets its two
halves. -/
theorem pairIncrementsDecrements : Obligations.PairIncrementsDecrements := by
  refine fun s up => ⟨fun p => ?_, exec_inx_dcx up .bc s, exec_inx_dcx up .de s, exec_inx_dcx up .hl s,
    exec_inx_dcx up .sp s⟩
  cases up with
  | true => exact chartRow_inx p
  | false => exact chartRow_dcx p

/-! ### DAD (45_alu_16bit.md R272) -/

theorem exec_dad (p : Pair16) (s : State) : exec (Instr.dad p) s = dadPair p s := by cases p <;> rfl

theorem chartRow_dad (p : Pair16) : ChartRow (Instr.dad p) (0x09 + 16 * p.code) 1 (10, 10) .carry := by
  cases p <;> exact ⟨rfl, rfl, rfl, rfl⟩

/-- `DAD` on numbers: the sum modulo 2^16 to H,L, its carry to C. -/
theorem dadPair_eq (p : Pair16) (s : State) :
    let total := (s.pair .hl).toNat + (s.pair16 p).toNat
    dadPair p s = .next { s with
      regs := { s.regs with h := hiByte (BitVec.ofNat 16 total), l := loByte (BitVec.ofNat 16 total) }
      flags := { s.flags with c := decide (65536 ≤ total) }
      pc := s.pc + 1
      intInhibit := false } := by
  rw [dadPair, add16_eq]
  rfl

/-- Settles O60: `DAD` is `dadPair`, whose operand is the pair or SP of the constructor. -/
theorem pairAdditions : Obligations.PairAdditions := by
  intro s p hl rp total
  have hrp : s.pair16 p = rp := by cases p <;> rfl
  refine ⟨chartRow_dad p, ?_⟩
  rw [exec_dad, dadPair_eq, hrp]
  rfl

end Sys2Proof.Machine

/-! PROOFS for the family 60_exceptions.md: the step as one equation for each of its cases, which instructions a device
may supply and what their acceptance does, what an instruction answers (a next state, or the one refusal R91 names), and
the invariant. -/

namespace Sys2Proof.Machine

/-! ### The cases of a step (60_exceptions.md R283); the fourth is `step_eq_exec` -/

theorem step_of_acceptedRequest {s : State} {q : Supply} (hreset : s.atBoundary.reset = false)
    (hq : s.acceptedRequest = some q) : step s = acceptInterrupt q s.pastBoundary := by
  simp [step, hreset, hq]

theorem step_of_acceptedRequest_none {s : State} (hnone : s.acceptedRequest = none) : step s =
    if s.atBoundary.reset then .next s.pastBoundary.resetEvent
    else if s.halted then .next s.pastBoundary
    else exec s.pastBoundary.fetch.1 s.pastBoundary.fetch.2 := by
  simp [step, hnone]

/-- Settles O13: the step is the state past the boundary. -/
theorem haltedStepChangesNothing : Obligations.HaltedStepChangesNothing := by
  intro s hreset hnone hhalted
  refine ⟨s.pastBoundary, ?_, rfl, rfl, rfl, rfl⟩
  simp [step_of_acceptedRequest_none hnone, hreset, hhalted]

/-- While `inte` is 0 or `int_inhibit` is 1 the boundary is closed (60_exceptions.md R282, R286). -/
theorem State.acceptedRequest_of_masked {s : State} (h : s.inte = false ∨ s.intInhibit = true) :
    s.acceptedRequest = none :=
  h.elim State.acceptedRequest_of_not_inte State.acceptedRequest_of_intInhibit

/-- The state with the request at this boundary withdrawn; the reset line stays as it is. -/
def State.withoutRequest (s : State) (b : Boundary) (rest : List Boundary) : State :=
  { s with plat := { s.plat with boundary := { b with request := none } :: rest } }

/-- Settles O12: neither state accepts a request, and a step that accepts none reads of the boundary its reset line
alone. -/
theorem maskedRequestIgnored : Obligations.MaskedRequestIgnored := by
  intro s b rest hscript hmasked
  change step s = step (s.withoutRequest b rest)
  have hreset : (s.withoutRequest b rest).atBoundary.reset = s.atBoundary.reset := by
    simp [State.withoutRequest, State.atBoundary, hscript]
  have hpast : (s.withoutRequest b rest).pastBoundary = s.pastBoundary := by
    simp [State.withoutRequest, State.pastBoundary, hscript]
  have hhalted : (s.withoutRequest b rest).halted = s.halted := rfl
  have hmasked' : (s.withoutRequest b rest).acceptedRequest = none := State.acceptedRequest_of_masked hmasked
  rw [step_of_acceptedRequest_none (State.acceptedRequest_of_masked hmasked), step_of_acceptedRequest_none hmasked',
    hreset, hpast, hhalted]

/-! ### The instruction at `pc` in RAM or ROM (20_memory.md R55, R68) -/

/-- Out of RAM or ROM a fetch gives the instruction the bytes decode to, and changes nothing. -/
theorem State.fetch_plain {s : State} {i : Instr} {rest : List Byte}
    (hplain : ∀ k : Nat, k < i.length → s.memClass (s.pc + BitVec.ofNat 16 k) = .ram ∨
      s.memClass (s.pc + BitVec.ofNat 16 k) = .rom)
    (hdecode : decode [s.mem.read s.pc, s.mem.read (s.pc + 1), s.mem.read (s.pc + 2)] = .ok (i, rest)) :
    s.fetch = (i, s) := by
  have hfirst (hk : 0 < i.length) : s.memRead s.pc = (s.mem.read s.pc, s) :=
    s.memRead_plain s.pc (by simpa using hplain 0 hk)
  have hsecond (hk : 1 < i.length) := s.memRead_plain (s.pc + 1) (hplain 1 hk)
  have hthird (hk : 2 < i.length) := s.memRead_plain (s.pc + 2) (hplain 2 hk)
  rcases opLength_cases (s.mem.read s.pc) with h | h | h
  · rw [decode_of_length_one h] at hdecode
    cases hdecode
    rw [decodeOp_length, h] at hfirst
    simp only [State.fetch, hfirst (by omega), h]
  · rw [decode_of_length_two h] at hdecode
    cases hdecode
    rw [decodeOp_length, h] at hfirst hsecond
    simp only [State.fetch, hfirst (by omega), h, hsecond (by omega)]
  · rw [decode_of_length_three h] at hdecode
    cases hdecode
    rw [decodeOp_length, h] at hfirst hsecond hthird
    simp only [State.fetch, hfirst (by omega), h, hsecond (by omega), hthird (by omega)]

/-- Settles O7: the step is the instruction fetched, and the fetch changes nothing but the boundary it is past. -/
theorem stepRunsDecodedInstruction : Obligations.StepRunsDecodedInstruction := by
  intro s i rest hreset hnone hhalted hplain hdecode
  have hfetch : s.pastBoundary.fetch = (i, s.pastBoundary) := State.fetch_plain hplain hdecode
  rw [step_eq_exec hreset hnone hhalted, hfetch]

/-! ### What a device may supply (60_exceptions.md R285) -/

theorem suppliedTarget_rst (n : Fin 8) (b2 b3 : Byte) :
    suppliedTarget (decodeOp (BitVec.ofNat 8 (0xC7 + 8 * n.val)) b2 b3) = some (restartTarget n) := by
  fin_cases n <;> rfl

theorem suppliedTarget_call (b2 b3 : Byte) : suppliedTarget (decodeOp 0xCD b2 b3) = some (wordOf b3 b2) := rfl

/-- Only the nine opcodes the spec admits have a target. -/
theorem suppliedTarget_of_not_mem {i : Instr} (h : i.opcode ∉ suppliable) : suppliedTarget i = none := by
  cases i with
  | rst0 | rst1 | rst2 | rst3 | rst4 | rst5 | rst6 | rst7 | call =>
    exact absurd (by simp [Instr.opcode, encode, suppliable]) h
  | _ => rfl

/-- Each of the nine has one. -/
theorem suppliedTarget_of_mem {op : Byte} (h : op ∈ suppliable) (b2 b3 : Byte) :
    ∃ target, suppliedTarget (decodeOp op b2 b3) = some target := by
  fin_cases h <;> exact ⟨_, rfl⟩

/-- An opcode that is not admitted is refused by name. -/
theorem acceptInterrupt_of_not_mem {q : Supply} (h : q.op ∉ suppliable) (s : State) :
    acceptInterrupt q s = .refused (.suppliedNotAdmitted q.op) := by
  simp only [acceptInterrupt, suppliedTarget_of_not_mem ((decodeOp_opcode q.op q.b2 q.b3).symm ▸ h)]

/-- Nothing else is refused at an acceptance. -/
theorem acceptInterrupt_refused {q : Supply} {s : State} {r : Refusal} (h : acceptInterrupt q s = .refused r) :
    q.op ∉ suppliable ∧ r = .suppliedNotAdmitted q.op := by
  by_cases hop : q.op ∈ suppliable
  · obtain ⟨target, htarget⟩ := suppliedTarget_of_mem hop q.b2 q.b3
    simp [acceptInterrupt, htarget] at h
  · rw [acceptInterrupt_of_not_mem hop] at h
    cases h
    exact ⟨hop, rfl⟩

/-- Settles O11: the boundary is open, and the request it accepts is refused. -/
theorem otherSuppliedRefused : Obligations.OtherSuppliedRefused := by
  intro s q hreset hinte hinhibit hrequest hop
  rw [step_of_acceptedRequest hreset ((State.acceptedRequest_of_open hinte hinhibit).trans hrequest),
    acceptInterrupt_of_not_mem hop]

/-! ### The acceptance of a request (60_exceptions.md R284, R291) -/

/-- The state from which a supplied instruction runs: past the boundary, with interrupts disabled and not halted
(60_exceptions.md R284). -/
def State.accepting (s : State) : State := { s.pastBoundary with inte := false, halted := false }

@[simp] theorem State.accepting_memClass (s : State) (a : Word) : s.accepting.memClass a = s.memClass a := rfl

/-- A memory write does not see what the acceptance clears. -/
theorem State.memWrite_accepting (s : State) (a : Word) (v : Byte) :
    s.accepting.memWrite a v = (s.memWrite a v).accepting := by
  simp only [State.memWrite, State.accepting_memClass]
  split <;> rfl

/-- Nor does a call: what it pushes and where it goes are those of the interrupted state. -/
theorem State.call_accepting (s : State) (target ret : Word) :
    s.accepting.call target ret = (s.call target ret).accepting := by
  rw [State.call_eq_writes, State.memWrite_accepting, State.memWrite_accepting]
  rfl

/-- The step at an open boundary with an admitted request: a call of its target, with the unadvanced `pc` as the return
address. -/
theorem step_of_suppliedTarget {s : State} {q : Supply} {target : Word} (hreset : s.atBoundary.reset = false)
    (hinte : s.inte = true) (hinhibit : s.intInhibit = false) (hrequest : s.atBoundary.request = some q)
    (htarget : suppliedTarget (decodeOp q.op q.b2 q.b3) = some target) :
    step s = .next (s.accepting.call target s.pc) := by
  rw [step_of_acceptedRequest hreset ((State.acceptedRequest_of_open hinte hinhibit).trans hrequest)]
  simp only [acceptInterrupt, htarget]
  rfl

/-- Settles O10: both admitted forms have a target, and the step is the call of it. -/
theorem interruptAcceptance : Obligations.InterruptAcceptance := by
  intro s q hreset hinte hinhibit hrequest target hsupplied
  have htarget : suppliedTarget (decodeOp q.op q.b2 q.b3) = some target := by
    obtain ⟨n, hop, rfl⟩ | ⟨hop, rfl⟩ := hsupplied
    · rw [hop, suppliedTarget_rst, restartTarget]
    · rw [hop, suppliedTarget_call]
  refine ⟨_, step_of_suppliedTarget hreset hinte hinhibit hrequest htarget, ?_⟩
  rw [State.call_accepting]
  exact ⟨rfl, rfl, rfl, rfl, rfl, s.call_regs target s.pc, s.call_flags target s.pc, s.call_cfg target s.pc, rfl, rfl⟩

/-- Settles O31: the acceptance is a call, so `RET` is the return of a call (`State.ret_call`). -/
theorem interruptThenReturn : Obligations.InterruptThenReturn := by
  intro s q n hreset hinte hinhibit hrequest hop h1 h2
  have htarget : suppliedTarget (decodeOp q.op q.b2 q.b3) = some (restartTarget n) := by rw [hop, suppliedTarget_rst]
  have hstep := step_of_suppliedTarget hreset hinte hinhibit hrequest htarget
  refine ⟨_, _, hstep, ?_, exec_ret _, ?_⟩
  · rw [State.call_pc, restartTarget, BitVec.toNat_ofNat]
    omega
  · rw [State.ret_call s.accepting _ s.pc h1 h2]
    simp [State.accepting]

/-! ### What an instruction answers (60_exceptions.md R280, 30_encoding.md R90, R91) -/

/-- A next state, whatever the policy; or, for an alternative opcode under `refuse`, the refusal that names it. -/
def Answers (i : Instr) (s : State) : Prop :=
  (∃ t, exec i s = .next t) ∨
  (s.cfg.altOpcodePolicy = .refuse ∧ i.opcode ∈ altOpcodes ∧ exec i s = .refused (.altOpcode i.opcode))

/-- A meaning under the policy on alternative opcodes, over one that completes. -/
theorem answers_of_altOpcode {i : Instr} {s t : State} (hopcode : i.opcode ∈ altOpcodes)
    (halt : exec i s = altOpcode i.opcode s (.next t)) : Answers i s := by
  cases hpolicy : s.cfg.altOpcodePolicy with
  | execute => exact .inl ⟨t, halt.trans (altOpcode_execute hpolicy _ _)⟩
  | refuse => exact .inr ⟨hpolicy, hopcode, halt.trans (altOpcode_refuse hpolicy _ _)⟩

/-- Every instruction answers so: the meanings of the 12 alternative opcodes stand under the policy, the conditional
ones end in a next state either way, and every other is a next state as it stands. -/
theorem exec_answers (i : Instr) (s : State) : Answers i s := by
  cases i with
  | altNop08 | altNop10 | altNop18 | altNop20 | altNop28 | altNop30 | altNop38 | altRetD9 | altJmpCB | altCallDD
  | altCallED | altCallFD =>
    exact answers_of_altOpcode (by simp [Instr.opcode, encode, altOpcodes]) rfl
  | jnz | jz | jnc | jc | jpo | jpe | jp | jm => exact .inl ⟨_, jumpIf_eq _ _ s⟩
  | cnz | cz | cnc | cc | cpo | cpe | cp | cm => exact .inl ⟨_, callIf_eq _ _ s⟩
  | rnz | rz | rnc | rc | rpo | rpe | rp | rm => exact .inl ⟨_, returnIf_eq _ s⟩
  | _ => exact .inl ⟨_, rfl⟩

/-- Settles O18: the refusal needs the policy `refuse`. -/
theorem everyInstructionCompletes : Obligations.EveryInstructionCompletes := by
  intro i s hpolicy
  obtain hnext | ⟨hrefuse, hopcode, -⟩ := exec_answers i s
  · exact hnext
  · rw [hpolicy hopcode] at hrefuse
    cases hrefuse

theorem exec_refused {i : Instr} {s : State} {r : Refusal} (h : exec i s = .refused r) :
    s.cfg.altOpcodePolicy = .refuse ∧ i.opcode ∈ altOpcodes ∧ r = .altOpcode i.opcode := by
  obtain ⟨t, hnext⟩ | ⟨hrefuse, hopcode, hanswer⟩ := exec_answers i s
  · rw [hnext] at h
    cases h
  · rw [hanswer] at h
    cases h
    exact ⟨hrefuse, hopcode, rfl⟩

/-- A refused step is a refused request or a refused instruction. -/
theorem step_refused {s : State} {r : Refusal} (h : step s = .refused r) :
    (∃ q, s.acceptedRequest = some q ∧ acceptInterrupt q s.pastBoundary = .refused r) ∨
    exec s.pastBoundary.fetch.1 s.pastBoundary.fetch.2 = .refused r := by
  unfold step at h
  split at h
  · cases h
  · split at h
    · next q hq => exact .inl ⟨q, hq, h⟩
    · split at h
      · cases h
      · exact .inr h

/-- Settles O17: there is no value of `Fault`, and each of the two refusals is one of the spec's. -/
theorem stepRefusalsAreTheSpecs : Obligations.StepRefusalsAreTheSpecs := by
  refine fun s => ⟨nofun, fun r h => ?_⟩
  obtain ⟨q, hq, hrefused⟩ | hrefused := step_refused h
  · obtain ⟨hop, rfl⟩ := acceptInterrupt_refused hrefused
    exact .inr ⟨q, hq, hop, rfl⟩
  · obtain ⟨hpolicy, hopcode, rfl⟩ := exec_refused hrefused
    exact .inl ⟨by simpa using hpolicy, _, hopcode, rfl⟩

/-! ### The invariant (60_exceptions.md R283, T9 of 95_test_vectors.md) -/

section Canonical

/-! Each shared operation of the meanings keeps memory canonical: it stores by `memWrite`, `writeOperand` or `push`, or
leaves memory as it is, though a read of it may draw from the platform. -/

variable {s t u : State}

theorem next_wf (h : (.next u : Result) = .next t) (hu : u.mem.wf = true) : t.mem.wf = true := by
  cases h
  exact hu

theorem State.memRead_wf (a : Word) (hwf : s.mem.wf = true) : (s.memRead a).2.mem.wf = true := by
  rwa [State.memRead_mem]

theorem State.readOperand_wf (o : Operand8) (hwf : s.mem.wf = true) : (s.readOperand o).2.mem.wf = true := by
  rwa [State.readOperand_mem]

theorem State.pop_wf (hwf : s.mem.wf = true) : s.pop.2.mem.wf = true := by
  rwa [State.pop_mem]

theorem move_wf {dst src : Operand8} (h : move dst src s = .next t) (hwf : s.mem.wf = true) : t.mem.wf = true :=
  next_wf h (State.writeOperand_wf dst _ (State.readOperand_wf src hwf))

theorem moveImm_wf {dst : Operand8} {d8 : Byte} (h : moveImm dst d8 s = .next t) (hwf : s.mem.wf = true) :
    t.mem.wf = true :=
  next_wf h (State.writeOperand_wf dst d8 hwf)

theorem increment_wf {o : Operand8} (h : increment o s = .next t) (hwf : s.mem.wf = true) : t.mem.wf = true :=
  next_wf h (State.writeOperand_wf o _ (State.readOperand_wf o hwf))

theorem decrement_wf {o : Operand8} (h : decrement o s = .next t) (hwf : s.mem.wf = true) : t.mem.wf = true :=
  next_wf h (State.writeOperand_wf o _ (State.readOperand_wf o hwf))

theorem accumulateWith_wf {op : AluOp} {src : Operand8} (h : accumulateWith op src s = .next t)
    (hwf : s.mem.wf = true) : t.mem.wf = true :=
  next_wf h (State.readOperand_wf src hwf)

theorem loadA_wf {a : Word} {len : Nat} (h : loadA a len s = .next t) (hwf : s.mem.wf = true) : t.mem.wf = true :=
  next_wf h (State.memRead_wf a hwf)

theorem storeA_wf {a : Word} {len : Nat} (h : storeA a len s = .next t) (hwf : s.mem.wf = true) : t.mem.wf = true :=
  next_wf h (State.memWrite_wf a _ hwf)

theorem loadHL_wf {a : Word} (h : loadHL a s = .next t) (hwf : s.mem.wf = true) : t.mem.wf = true :=
  next_wf h (State.memRead_wf _ (State.memRead_wf a hwf))

theorem exchangeTop_wf (h : exchangeTop s = .next t) (hwf : s.mem.wf = true) : t.mem.wf = true :=
  next_wf h (State.memWrite_wf _ _ (State.memWrite_wf _ _ (State.memRead_wf _ (State.memRead_wf _ hwf))))

theorem pushValue_wf {v : Word} (h : pushValue v s = .next t) (hwf : s.mem.wf = true) : t.mem.wf = true :=
  next_wf h (State.push_wf v hwf)

theorem popPair_wf {p : Pair} (h : popPair p s = .next t) (hwf : s.mem.wf = true) : t.mem.wf = true :=
  next_wf h (State.pop_wf hwf)

theorem callNext_wf {target : Word} {len : Nat} (h : callNext target len s = .next t) (hwf : s.mem.wf = true) :
    t.mem.wf = true :=
  next_wf h (State.push_wf _ hwf)

theorem jumpIf_wf {cc : Cond} {a16 : Word} (h : jumpIf cc a16 s = .next t) (hwf : s.mem.wf = true) :
    t.mem.wf = true := by
  rcases jumpIf_next h with ⟨-, rfl⟩ | ⟨-, rfl⟩
  · exact hwf
  · exact hwf

theorem callIf_wf {cc : Cond} {a16 : Word} (h : callIf cc a16 s = .next t) (hwf : s.mem.wf = true) :
    t.mem.wf = true := by
  rcases callIf_next h with ⟨-, rfl⟩ | ⟨-, rfl⟩
  · exact State.push_wf _ hwf
  · exact hwf

theorem returnIf_wf {cc : Cond} (h : returnIf cc s = .next t) (hwf : s.mem.wf = true) : t.mem.wf = true := by
  rcases returnIf_next h with ⟨-, rfl⟩ | ⟨-, rfl⟩
  · exact State.pop_wf hwf
  · exact hwf

end Canonical

/-- Every instruction keeps memory canonical: one arm for each shared operation. -/
theorem exec_wf {i : Instr} {s t : State} (h : exec i s = .next t) (hwf : s.mem.wf = true) : t.mem.wf = true := by
  cases i with
  | movBB | movBC | movBD | movBE | movBH | movBL | movBM | movBA | movCB | movCC | movCD | movCE | movCH | movCL
  | movCM | movCA | movDB | movDC | movDD | movDE | movDH | movDL | movDM | movDA | movEB | movEC | movED | movEE
  | movEH | movEL | movEM | movEA | movHB | movHC | movHD | movHE | movHH | movHL | movHM | movHA | movLB | movLC
  | movLD | movLE | movLH | movLL | movLM | movLA | movMB | movMC | movMD | movME | movMH | movML | movMA | movAB
  | movAC | movAD | movAE | movAH | movAL | movAM | movAA =>
    exact move_wf h hwf
  | mviB | mviC | mviD | mviE | mviH | mviL | mviM | mviA => exact moveImm_wf h hwf
  | inrB | inrC | inrD | inrE | inrH | inrL | inrM | inrA => exact increment_wf h hwf
  | dcrB | dcrC | dcrD | dcrE | dcrH | dcrL | dcrM | dcrA => exact decrement_wf h hwf
  | addB | addC | addD | addE | addH | addL | addM | addA | adcB | adcC | adcD | adcE | adcH | adcL | adcM | adcA
  | subB | subC | subD | subE | subH | subL | subM | subA | sbbB | sbbC | sbbD | sbbE | sbbH | sbbL | sbbM | sbbA
  | anaB | anaC | anaD | anaE | anaH | anaL | anaM | anaA | xraB | xraC | xraD | xraE | xraH | xraL | xraM | xraA
  | oraB | oraC | oraD | oraE | oraH | oraL | oraM | oraA | cmpB | cmpC | cmpD | cmpE | cmpH | cmpL | cmpM | cmpA =>
    exact accumulateWith_wf h hwf
  | ldaxB | ldaxD | lda => exact loadA_wf h hwf
  | staxB | staxD | sta => exact storeA_wf h hwf
  | lhld => exact loadHL_wf h hwf
  | shld => exact next_wf h (State.memWrite_wf _ _ (State.memWrite_wf _ _ hwf))
  | xthl => exact exchangeTop_wf h hwf
  | pushB | pushD | pushH | pushPsw => exact pushValue_wf h hwf
  | popB | popD | popH => exact popPair_wf h hwf
  | popPsw => exact next_wf h (State.pop_wf hwf)
  | call | rst0 | rst1 | rst2 | rst3 | rst4 | rst5 | rst6 | rst7 => exact callNext_wf h hwf
  | altCallDD | altCallED | altCallFD => exact callNext_wf (altOpcode_next h).2 hwf
  | cnz | cz | cnc | cc | cpo | cpe | cp | cm => exact callIf_wf h hwf
  | ret => exact next_wf h (State.pop_wf hwf)
  | altRetD9 => exact next_wf (altOpcode_next h).2 (State.pop_wf hwf)
  | rnz | rz | rnc | rc | rpo | rpe | rp | rm => exact returnIf_wf h hwf
  | jnz | jz | jnc | jc | jpo | jpe | jp | jm => exact jumpIf_wf h hwf
  | inPort p => rw [exec_inPort] at h; exact next_wf h (by simpa using hwf)
  | altNop08 | altNop10 | altNop18 | altNop20 | altNop28 | altNop30 | altNop38 | altJmpCB =>
    exact next_wf (altOpcode_next h).2 hwf
  | _ => exact next_wf h hwf

/-- With `int_inhibit` 0 the invariant asks for canonical memory alone. -/
theorem State.inv_of_intInhibit_eq_false {s : State} (hwf : s.mem.wf = true) (h : s.intInhibit = false) : s.Inv :=
  ⟨hwf, fun _ => h, by simp [h]⟩

/-- An instruction run while not halted keeps the invariant: `EI` alone sets `int_inhibit`, and with it `inte`, and it
does not halt. -/
theorem exec_inv {i : Instr} {s t : State} (h : exec i s = .next t) (hwf : s.mem.wf = true)
    (hhalted : s.halted = false) : t.Inv := by
  obtain ⟨hei, -, -, -, hkept, -, hclear⟩ := hiddenBitWriters i s t h
  by_cases hi : i = .ei
  · have hrunning : t.halted = false := by rw [hkept (by simp [hi]), hhalted]
    exact ⟨exec_wf h hwf, by simp [hrunning], fun _ => hei hi⟩
  · exact State.inv_of_intInhibit_eq_false (exec_wf h hwf) (hclear hi)

/-- Settles O16, in the four cases of a step: reset, acceptance and the halted step leave `int_inhibit` 0 or everything
as it was, and an instruction is covered by `exec_inv`. -/
theorem stepKeepsInvariant : Obligations.StepKeepsInvariant := by
  intro s t hinv h
  obtain ⟨hwf, hhalt, hinhibit⟩ := hinv
  obtain ⟨-, rfl⟩ | ⟨q, -, hq⟩ | ⟨-, -, rfl⟩ | ⟨-, -, hhalted, hexec⟩ := step_next h
  · exact State.inv_of_intInhibit_eq_false hwf rfl
  · obtain ⟨target, -, rfl⟩ := acceptInterrupt_next hq
    exact State.inv_of_intInhibit_eq_false (State.push_wf _ hwf) rfl
  · exact ⟨hwf, hhalt, hinhibit⟩
  · exact exec_inv hexec (by simpa using hwf) (by simpa using hhalted)

end Sys2Proof.Machine

/-! PROOFS for the family 70_reset_and_hazards.md: the step at an asserted reset, the run from a final state, and the
durations read off the chart. -/

namespace Sys2Proof.Machine

/-! ### Reset (70_reset_and_hazards.md R320), the first case of a step -/

theorem step_of_reset {s : State} (hreset : s.atBoundary.reset = true) : step s = .next s.pastBoundary.resetEvent := by
  simp [step, hreset]

/-- Settles O9: reset comes before everything else in a step, and `resetEvent` writes its four fields. -/
theorem resetWritesFourFields : Obligations.ResetWritesFourFields := fun s hreset =>
  ⟨s.pastBoundary.resetEvent, step_of_reset hreset, rfl, rfl, rfl, rfl, rfl, rfl, rfl, rfl, rfl, rfl⟩

/-! ### The end of a run (70_reset_and_hazards.md R325) -/

theorem run_succ_of_next {M : Host.Core} {s t : M.State} (h : M.step s = .next t) (n : Nat) :
    M.run (n + 1) s = M.run n t := by
  simp only [Host.Core.run, h]

theorem State.final_iff (s : State) : s.final = true ↔ s.halted = true ∧ s.inte = false := by
  simp [State.final]

/-- A script without a reset presents none at this boundary; an empty script presents nothing. -/
theorem State.atBoundary_reset_of_script {s : State} (hscript : ∀ b ∈ s.plat.boundary, b.reset = false) :
    s.atBoundary.reset = false := by
  unfold State.atBoundary
  split
  · rfl
  · next b rest heq => exact hscript b (by simp [heq])

/-- From a final state, with no reset presented, a step only goes past the boundary. -/
theorem step_of_final {s : State} (hfinal : s.final = true) (hreset : s.atBoundary.reset = false) :
    step s = .next s.pastBoundary := by
  obtain ⟨hhalted, hinte⟩ := s.final_iff.mp hfinal
  simp [step_of_acceptedRequest_none (State.acceptedRequest_of_not_inte hinte), hreset, hhalted]

/-- The state with the next `n` entries of the platform's script used up, and nothing else done. -/
def State.pastBoundaries (s : State) (n : Nat) : State :=
  { s with plat := { s.plat with boundary := s.plat.boundary.drop n } }

theorem State.pastBoundaries_pastBoundary (s : State) (n : Nat) :
    s.pastBoundary.pastBoundaries n = s.pastBoundaries (n + 1) := by
  simp [State.pastBoundaries, State.pastBoundary]

/-- A final state stays final past a boundary, and what is left of its script holds no reset either. -/
theorem run_of_final (n : Nat) {s : State} (hfinal : s.final = true)
    (hscript : ∀ b ∈ s.plat.boundary, b.reset = false) : core.run n s = .next (s.pastBoundaries n) := by
  induction n generalizing s with
  | zero => rfl
  | succ n ih =>
    have hstep : core.step s = .next s.pastBoundary := step_of_final hfinal (State.atBoundary_reset_of_script hscript)
    have hrest : ∀ b ∈ s.pastBoundary.plat.boundary, b.reset = false := fun b hb =>
      hscript b (List.mem_of_mem_tail hb)
    rw [run_succ_of_next hstep, ← State.pastBoundaries_pastBoundary]
    exact ih (s := s.pastBoundary) hfinal hrest

/-- Settles O14: `n` steps use up `n` entries of the script and do nothing else. -/
theorem finalStateIsFixed : Obligations.FinalStateIsFixed := fun n s hhalted hinte hscript =>
  ⟨s.pastBoundaries n, run_of_final n (s.final_iff.mpr ⟨hhalted, hinte⟩) hscript, rfl, rfl⟩

/-! ### Durations (70_reset_and_hazards.md R323, 30_encoding.md R88) -/

/-- `m` rows of `k` numbers, one after the other, are the numbers below `k * m`. -/
theorem flatMap_range'_mul (k m : Nat) :
    (List.range m).flatMap (fun row => List.range' (k * row) k) = List.range (k * m) := by
  induction m with
  | zero => rfl
  | succ m ih =>
    rw [List.range_succ, List.flatMap_append, ih, List.flatMap_singleton, Nat.mul_succ, List.range_add,
      List.range'_eq_map_range]

/-- The opcodes of one row of the opcode map have the durations of that row of the chart. -/
theorem map_duration_row : ∀ row ∈ List.range 16,
    (List.range' (16 * row) 16).map (fun n => duration (BitVec.ofNat 8 n)) = durationChart row := by
  intro row hrow
  fin_cases hrow <;> rfl

/-- The opcodes with a duration are counted row by row of the chart. -/
theorem countP_duration (d : Nat × Nat) :
    (List.range 256).countP (fun n => duration (BitVec.ofNat 8 n) == d) =
      ((List.range 16).map fun row => (durationChart row).count d).sum := by
  rw [show 256 = 16 * 16 from rfl, ← flatMap_range'_mul, List.countP_flatMap]
  refine congrArg List.sum (List.map_congr_left fun row hrow => ?_)
  rw [← map_duration_row row hrow, List.count, List.countP_map]
  rfl

/-- Settles O38: the counts of the chart's sixteen rows, added up. -/
theorem durationCounts : Obligations.DurationCounts := by
  simp only [Obligations.DurationCounts, countP_duration]
  decide

end Sys2Proof.Machine
